-- ==== Sys2Proof/Word.lean ====
section
/-! DEFINITION. The two plain value types of the spec (00_scope R7): a byte of 8 bits and an
unsigned word of 32 bits. Nothing in the block is signed (R13). -/

namespace Sys2Proof

/-- A byte, value 0..255 (R7). -/
abbrev Byte := BitVec 8

/-- A word, 32 bits, unsigned (R7). -/
abbrev Word := BitVec 32

end Sys2Proof
end

