-- ==== Sys2Proof/Syntax.lean ====
section
/-! DEFINITION. The four commands of the block, one constructor per row of
spec/opcode_table.json (30_encoding R73). -/

namespace Sys2Proof

/-- A command. The operands of CRC32 are unsigned 12-bit numbers used as they are: no sign
extension, no scaling (30_encoding R72). -/
inductive Instr where
  /-- `ADLER32` (40_adler32 R97). -/
  | adler32
  /-- `CRCINIT` (41_crc32 R113). -/
  | crcinit
  /-- `CRC32 off, len` (41_crc32 R117). -/
  | crc32 (off len : BitVec 12)
  /-- `B64ENC` (42_base64 R139). -/
  | b64enc
deriving DecidableEq, Repr

end Sys2Proof
end

