-- ==== Sys2Proof/Decode.lean ====
section
/-! DEFINITION. Command words: the fields of 30_encoding R71, the decoder of R73 and R74 (total on
32-bit words, an illegal word rejected by name), and after it the encoder from the same table. -/

namespace Sys2Proof

/-- `op`, bits 31:24 (30_encoding R71). -/
def opField (w : Word) : BitVec 8 := w.extractLsb' 24 8

/-- `A`, bits 23:12 (30_encoding R71). -/
def aField (w : Word) : BitVec 12 := w.extractLsb' 12 12

/-- `B`, bits 11:0 (30_encoding R71). -/
def bField (w : Word) : BitVec 12 := w.extractLsb' 0 12

/-- Why a word is illegal (30_encoding R74). -/
inductive Illegal where
  /-- `op = 0x00` or `op >= 0x05`. -/
  | opcode
  /-- a format-Z command with `A` or `B` not 0. -/
  | operand
deriving DecidableEq, Repr

/-- What the decoder makes of a word: a command, or an illegal word by name. -/
inductive Decoded where
  | command (i : Instr)
  | illegal (why : Illegal)
deriving DecidableEq, Repr

/-- Format Z: "`A` and `B` must both be 0" (30_encoding R71). -/
def formatZ (w : Word) (i : Instr) : Decoded :=
  if aField w = 0 ∧ bField w = 0 then .command i else .illegal .operand

/-- The decoder (30_encoding R73, R74): every word is one of the four commands or illegal. -/
def decode (w : Word) : Decoded :=
  if opField w = 0x01 then formatZ w .adler32
  else if opField w = 0x02 then formatZ w .crcinit
  else if opField w = 0x03 then .command (.crc32 (aField w) (bField w))
  else if opField w = 0x04 then formatZ w .b64enc
  else .illegal .opcode

/-- The command of an opcode-table row's word. All rows are one 32-bit word, a value with no byte
order (30_encoding R70), so the bits are handed to the decoder as the number they are; bits above
`nbits` are 0 (log 20). -/
def decodeTableWord (nbits w : Nat) : Option Instr :=
  match decode (BitVec.ofNat 32 (w % 2 ^ nbits)) with
  | .command i => some i
  | .illegal _ => none

/-- The word with the three given fields (30_encoding R71). -/
def packWord (op : BitVec 8) (a b : BitVec 12) : Word := op ++ a ++ b

/-- The encoder (30_encoding R73, R77). -/
def encode : Instr → Word
  | .adler32 => packWord 0x01 0 0
  | .crcinit => packWord 0x02 0 0
  | .crc32 off len => packWord 0x03 off len
  | .b64enc => packWord 0x04 0 0

end Sys2Proof
end

