-- ==== Sys2Proof/Config.lean ====
section
/-! DEFINITION. What is fixed for one machine and what the spec leaves open: the parameters of
10_state R33 (00_scope R5, decision D13) and the free values of 93_implementation_defined U1 and
U3. An `opaque` constant has no body: nothing can be proved of its value. -/

namespace Sys2Proof

/-- The parameters a command or `Reset` reads (10_state R33). `STREAM_OFF` is at most
2444 - 2352 = 92 and `ADLER_OFF` at most 2444 - 4 = 2440, so that both regions lie inside `BUF`
"for every legal parameter choice" (40_adler32 R97); log 3. -/
structure Params where
  /-- `TEMPLATE`, the 2444 bytes `Reset` puts into `BUF` (10_state R36). -/
  template : Vector Byte 2444
  /-- `STREAM_OFF` (20_memory R58). -/
  streamOff : Fin 93
  /-- `ADLER_OFF` (20_memory R58). -/
  adlerOff : Fin 2441
deriving DecidableEq, Repr

/-- One chunk of the buffer: the address of its length field and its whole size (20_memory R57). -/
structure Chunk where
  off : Nat
  len : Nat
deriving DecidableEq, Repr

/-- The ten parameters `OFF_x`, `LEN_x` of 00_scope R5. The block uses them only through the
operands the host gives to CRC32 (20_memory R57), so they are arguments of the assembler's
pseudo-instructions and of the host's scripts, not state. -/
structure ChunkMap where
  ihdr : Chunk
  plte : Chunk
  trns : Chunk
  idat : Chunk
  iend : Chunk
deriving DecidableEq, Repr

/-- `TEMPLATE`: the spec prints no byte of it (91_not_in_source N4, N5; decision D13), so no
statement may rest on one; log 3. -/
opaque Config.template : Vector Byte 2444

/-- The free byte that `ReadOut(i)` hands back for `OUTLEN <= i < 3272` (10_state R35, U3), the
argument being the number of the draw; log 9. -/
opaque Config.freeByte : Nat → Byte

/-- The free word left in the working register `CRC` by CRCINIT ("its final value is
unspecified", 41_crc32 R113), the argument being the number of the draw; log 10. -/
opaque Config.freeWord : Nat → Word

end Sys2Proof
end

