-- ==== Sys2Proof/Machine/Layout.lean ====
section
/-! DEFINITION. The default layout of the buffer (20_memory R57, R58, R59), as parameter values
(decision D13): the block's behaviour is stated for every parameter choice, and these are the
values a machine has unless it is given others; log 4. -/

namespace Sys2Proof.Machine

/-- `BUF_SIZE` (00_scope R5). -/
abbrev bufSize : Nat := 2444

/-- `OUT_SIZE` (00_scope R5, 42_base64 R136). -/
abbrev outSize : Nat := 3272

/-- `STREAM_LEN` (00_scope R5): 48 rows of one filter byte and 48 pixel bytes. -/
abbrev streamLen : Nat := 2352

/-- The chunk map of 20_memory R57. -/
def defaultChunks : ChunkMap where
  ihdr := ⟨0, 25⟩
  plte := ⟨25, 18⟩
  trns := ⟨43, 14⟩
  idat := ⟨57, 2375⟩
  iend := ⟨2432, 12⟩

/-- `STREAM_OFF = 72` (20_memory R58). -/
def defaultStreamOff : Fin 93 := 72

/-- `ADLER_OFF = 2424` (20_memory R58). -/
def defaultAdlerOff : Fin 2441 := 2424

/-- The parameters of a machine at power-on: the unprinted `TEMPLATE` and the default layout. -/
def defaultParams : Params where
  template := Config.template
  streamOff := defaultStreamOff
  adlerOff := defaultAdlerOff

/-- The two offsets of the parameters are those of 20_memory R58. -/
abbrev DefaultLayout (p : Params) : Prop :=
  p.streamOff = defaultStreamOff ∧ p.adlerOff = defaultAdlerOff

/-- An address is a placeholder byte in the default layout (20_memory R59): palette and alpha
bytes, rows, Adler-32 field, the five trailers. -/
def isPlaceholder (a : Nat) : Bool :=
  (33 ≤ a && a ≤ 38) || (51 ≤ a && a ≤ 52) || (72 ≤ a && a ≤ 2423) || (2424 ≤ a && a ≤ 2427) ||
  (21 ≤ a && a ≤ 24) || (39 ≤ a && a ≤ 42) || (53 ≤ a && a ≤ 56) || (2428 ≤ a && a ≤ 2431) ||
  (2440 ≤ a && a ≤ 2443)

/-- An address of `BUF` is a template constant in the default layout (20_memory R59). -/
def isTemplateConstant (a : Nat) : Bool := a < bufSize && !isPlaceholder a

end Sys2Proof.Machine
end

