-- ==== Sys2Proof/Machine/State.lean ====
section
/-! DEFINITION. The machine's state as plain data: everything 10_state R20 gives the block, and
beside it the model's own fields (parameters, the host's pending actions and last reply, the
count of free values drawn). -/

namespace Sys2Proof.Machine

/-- A byte memory: (address, byte) cells, addresses strictly rising, no cell equal to what an
unlisted address reads as (`Memory.wf` in Ops.lean). -/
abbrev Memory := List Host.Cell

/-- The six actions of the host (00_scope R6, 70_reset R176). -/
inductive HostAction where
  /-- `Reset` (70_reset R170). -/
  | reset
  /-- `WriteBuf(a, v)`. -/
  | writeBuf (a : Nat) (v : Byte)
  /-- `ReadBuf(a)`. -/
  | readBuf (a : Nat)
  /-- `Issue(w)`. -/
  | issue (w : Word)
  /-- `ReadOut(i)`. -/
  | readOut (i : Nat)
  /-- `ReadStatus()`. -/
  | readStatus
deriving DecidableEq, Repr

/-- What the host gets back from an action (70_reset R176, last column). -/
inductive Reply where
  /-- `Reset` and `WriteBuf` hand nothing back; also before the first action. -/
  | nothing
  /-- `Issue` returned: the command has completed or faulted, or was ignored. -/
  | returned
  /-- the byte of `ReadBuf` or `ReadOut`. -/
  | byte (v : Byte)
  /-- `ReadStatus`: the STATUS word, `FCAUSE`, `FINFO`, `OUTLEN`. -/
  | status (word : Word) (fcause : BitVec 3) (finfo : Word) (outlen : BitVec 12)
deriving DecidableEq, Repr

/-- The three fault causes of 60_exceptions R151. Each is raised by `State.raiseFault`, whose entry
the spec describes (R155): taking one is a NEXT state. No step of this model ends in
`Host.Outcome.fault` (log 13). -/
inductive Fault where
  /-- Raised by the decoder on `Issue(w)` of an illegal word. Safe: the spec's own fault. -/
  | illegalCommand
  /-- Raised by CRC32 while `TABV = 0`. Safe: the spec's own fault. -/
  | tableNotBuilt
  /-- Raised by CRC32 when `len < 12` or `off + len > 2444`. Safe: the spec's own fault. -/
  | boundsFault
deriving DecidableEq, Repr

/-- Why a step has no meaning. -/
inductive Refusal where
  /-- Raised by `exec` for a command without a meaning; no arm raises it. Safe: the machine stops. -/
  | notModelled (mnemonic : String)
  /-- Raised by the host actions `WriteBuf` and `ReadBuf` at an address `>= 2444` (10_state R35,
  60_exceptions R163: "a model gives them no step"). Safe: the machine stops. -/
  | bufAddress (a : Nat)
  /-- Raised by the host action `ReadOut` at an index `>= 3272` (10_state R35). Safe: the machine
  stops. -/
  | outIndex (i : Nat)
deriving DecidableEq, Repr

/-- The state of one decode context (10_state R20, R34). `SIG` is a constant and has no field
(log 18). -/
structure State where
  /-- `BUF` (R21); an unlisted address reads as the template's byte. -/
  buf : Memory
  /-- `OUT` (R23), one ASCII code per character. -/
  out : Memory
  /-- `OUTLEN` (R24). -/
  outlen : BitVec 12
  /-- `TAB` (R25). -/
  tab : Vector Word 256
  /-- `S1` (R26). -/
  s1 : Word
  /-- `S2` (R26). -/
  s2 : Word
  /-- `N` (R26). -/
  n : BitVec 13
  /-- `CRC` (R27). -/
  crc : Word
  /-- `G` (R28). -/
  g : BitVec 24
  /-- `CNT` (R28). -/
  cnt : BitVec 2
  /-- `PTR` (R29). -/
  ptr : BitVec 12
  /-- `OPTR` (R29). -/
  optr : BitVec 12
  /-- `STATUS.TABV` (R30). -/
  tabv : Bool
  /-- `STATUS.FAULTED` (R30). -/
  faulted : Bool
  /-- `STATUS.OUTV` (R30). -/
  outv : Bool
  /-- `FCAUSE` (R31). -/
  fcause : BitVec 3
  /-- `FINFO` (R31). -/
  finfo : Word
  /-- `pc`, the command index (R32): a natural number with no width. -/
  pc : Nat
  /-- The MODEL's own: the parameters of R33; no step changes them (log 3). -/
  params : Params
  /-- The MODEL's own: the host's pending actions, oldest first (log 1). -/
  host : List HostAction
  /-- The MODEL's own: what the last action handed back (log 1). -/
  reply : Reply
  /-- The MODEL's own: how many free values have been drawn (log 9). -/
  draws : Nat
deriving DecidableEq, Repr

/-- The machine right after reset (10_state R36). `BUF` lists nothing, so that it reads as
`TEMPLATE`. `OUT`, `TAB` and the working registers, unspecified by R36, hold 0 (DESIGN CHOICE,
logs 5, 6, 7). The host has nothing pending and has been handed nothing (log 1). -/
def State.reset : State where
  buf := []
  out := []
  outlen := 0
  tab := Vector.replicate 256 0
  s1 := 0
  s2 := 0
  n := 0
  crc := 0
  g := 0
  cnt := 0
  ptr := 0
  optr := 0
  tabv := false
  faulted := false
  outv := false
  fcause := 0
  finfo := 0
  pc := 0
  params := defaultParams
  host := []
  reply := .nothing
  draws := 0

end Sys2Proof.Machine
end

