-- ==== Sys2Proof/Machine/Ops.lean ====
section
/-! DEFINITION. The named operations over memory and registers: byte memories in canonical form,
the primitives of 00_scope R9 (`BUF[a]`, `MemRead`, `MemWrite`, `SrcRead`, `OUT[j]`, `raise
Fault`, `pc <- pc + 1`), fault entry (60_exceptions R155), and the register updates each unit
makes. There is no return from a fault but `Reset` (R157), which is in HostPort.lean. -/

namespace Sys2Proof.Machine

/-! ### Byte memories -/

/-- What address `a` of a memory reads as: its cell, else what an unlisted address reads as. -/
def Memory.read (dflt : Nat → Byte) (m : Memory) (a : Nat) : Byte :=
  (m.lookup a).getD (dflt a)

/-- The cells of the bytes `bs` stored from address `a` up, without those an unlisted address reads
as anyway. -/
def Memory.cells (dflt : Nat → Byte) : Nat → List Byte → Memory
  | _, [] => []
  | a, b :: bs =>
    if b = dflt a then Memory.cells dflt (a + 1) bs else (a, b) :: Memory.cells dflt (a + 1) bs

/-- Store the bytes `bs` at `a`, `a + 1`, …; every other address keeps its cell. -/
def Memory.write (dflt : Nat → Byte) (m : Memory) (a : Nat) (bs : List Byte) : Memory :=
  m.filter (fun c => c.1 < a) ++ Memory.cells dflt a bs ++
    m.filter (fun c => a + bs.length ≤ c.1)

/-- The canonical form of a memory of `size` bytes. -/
abbrev Memory.wf (dflt : Nat → Byte) (size : Nat) (m : Memory) : Prop :=
  m.Pairwise (fun c d => c.1 < d.1) ∧ ∀ c ∈ m, c.1 < size ∧ c.2 ≠ dflt c.1

/-! ### BUF, SIG, OUT -/

/-- What an unlisted address of `BUF` reads as: the template's byte (10_state R36). Addresses from
2444 up name no cell (20_memory R51): no command or host action reads one. -/
def templateByte (p : Params) (a : Nat) : Byte :=
  if h : a < 2444 then p.template[a] else 0

/-- `STREAM_OFF` as an address. -/
def State.streamOff (s : State) : Nat := s.params.streamOff.val

/-- `ADLER_OFF` as an address. -/
def State.adlerOff (s : State) : Nat := s.params.adlerOff.val

/-- What an unlisted address of `OUT` reads as: 0 (DESIGN CHOICE, log 5). -/
def outDefault (_ : Nat) : Byte := 0

/-- `BUF[a]` (00_scope R9). -/
def State.bufByte (s : State) (a : Nat) : Byte :=
  Memory.read (templateByte s.params) s.buf a

/-- The 2444 bytes of `BUF` in increasing address order: the template with the cells laid over it. -/
def State.bufAll (s : State) : List Byte :=
  s.params.template.toList.zipIdx.map fun c => (s.buf.lookup c.2).getD c.1

/-- The bytes `BUF[a], BUF[a+1], …`, `k` of them, in increasing address order; `a + k` is at most 2444
wherever the block reads (20_memory R65). -/
def State.bufBytes (s : State) (a k : Nat) : List Byte := (s.bufAll.drop a).take k

/-- `OUT[j]` (00_scope R9), the ASCII code of character `j`. -/
def State.outByte (s : State) (j : Nat) : Byte :=
  Memory.read outDefault s.out j

/-- The `k` characters `OUT[0], OUT[1], …`. -/
def State.outBytes (s : State) (k : Nat) : List Byte :=
  (List.range k).map s.outByte

/-- The canonical form of `BUF` holds. -/
abbrev State.bufWf (s : State) : Prop := Memory.wf (templateByte s.params) bufSize s.buf

/-- The canonical form of `OUT` holds. -/
abbrev State.outWf (s : State) : Prop := Memory.wf outDefault outSize s.out

/-- `BUF[a], BUF[a+1], … <- bs`. -/
def State.bufWrite (s : State) (a : Nat) (bs : List Byte) : State :=
  { s with buf := Memory.write (templateByte s.params) s.buf a bs }

/-- `OUT[j], OUT[j+1], … <- bs`. -/
def State.outWrite (s : State) (j : Nat) (bs : List Byte) : State :=
  { s with out := Memory.write outDefault s.out j bs }

/-- The number a byte sequence stands for, most significant byte first. -/
def bigEndian (bs : List Byte) : Nat :=
  bs.foldl (fun acc b => acc * 256 + b.toNat) 0

/-- The `k` bytes of an `8k`-bit value, most significant byte first (20_memory R53). -/
def bytesOf (k : Nat) (v : BitVec (8 * k)) : List Byte :=
  (List.range k).map fun j => v.extractLsb' (8 * (k - 1 - j)) 8

/-- `MemRead(a, k)` (00_scope R9), big-endian. -/
def State.memRead (s : State) (a k : Nat) : BitVec (8 * k) :=
  BitVec.ofNat (8 * k) (bigEndian ((List.range k).map fun j => s.bufByte (a + j)))

/-- `MemWrite(a, k, v)` (00_scope R9), big-endian. -/
def State.memWrite (s : State) (a k : Nat) (v : BitVec (8 * k)) : State :=
  s.bufWrite a (bytesOf k v)

/-- `SIG`, the constant memory holding the PNG signature (10_state R22). -/
def sig : List Byte := [0x89, 0x50, 0x4E, 0x47, 0x0D, 0x0A, 0x1A, 0x0A]

/-- The number of bytes of the base64 source stream, `SRC_SIZE` (00_scope R5). -/
abbrev srcSize : Nat := 2452

/-- The source stream `SrcRead(0), …, SrcRead(2451)`: the signature and the buffer as one sequence
(42_base64 R138). -/
def State.srcStream (s : State) : List Byte := sig ++ s.bufBytes 0 bufSize

/-! ### Command completion and fault entry -/

/-- `pc <- pc + 1`: the command is complete (10_state R32). -/
def State.complete (s : State) : State := { s with pc := s.pc + 1 }

/-- The code of a cause (60_exceptions R151). -/
def Fault.code : Fault → BitVec 3
  | .illegalCommand => 1
  | .tableNotBuilt => 2
  | .boundsFault => 3

/-- Fault entry, `raise Fault(cause, w)` (60_exceptions R155): the fault bit, the cause and the
command word, and nothing else. -/
def State.raiseFault (s : State) (cause : Fault) (w : Word) : State :=
  { s with faulted := true, fcause := cause.code, finfo := w }

/-! ### Registers -/

/-- The Adler unit's working registers (10_state R26, R29). -/
def State.setAdler (s : State) (s1 s2 : Word) (n : BitVec 13) (ptr : BitVec 12) : State :=
  { s with s1 := s1, s2 := s2, n := n, ptr := ptr }

/-- The CRC unit's working registers (10_state R27, R29). -/
def State.setCrc (s : State) (crc : Word) (ptr : BitVec 12) : State :=
  { s with crc := crc, ptr := ptr }

/-- The base64 unit's working registers (10_state R28, R29). -/
def State.setB64 (s : State) (g : BitVec 24) (cnt : BitVec 2) (ptr optr : BitVec 12) : State :=
  { s with g := g, cnt := cnt, ptr := ptr, optr := optr }

/-- All 256 entries of `TAB` (10_state R25). -/
def State.setTab (s : State) (t : Vector Word 256) : State := { s with tab := t }

/-- `OUTLEN` (10_state R24). -/
def State.setOutlen (s : State) (k : BitVec 12) : State := { s with outlen := k }

/-- The working register `CRC` takes a free value (41_crc32 R113: unspecified; log 10). -/
def State.freeCrc (s : State) : State :=
  { s with crc := Config.freeWord s.draws, draws := s.draws + 1 }

/-- What the host is handed back (70_reset R176). -/
def State.answer (s : State) (r : Reply) : State := { s with reply := r }

/-- The host is handed a free byte (10_state R35: any value; log 9). -/
def State.answerFree (s : State) : State :=
  { s with reply := .byte (Config.freeByte s.draws), draws := s.draws + 1 }

/-- The host's oldest action is taken off: the rest stays pending. -/
def State.setHost (s : State) (rest : List HostAction) : State := { s with host := rest }

end Sys2Proof.Machine
end

