-- ==== Sys2Proof/Machine/Adler.lean ====
section
/-! DEFINITION. The Adler-32 unit (40_adler32): the function `adler32` (R90), the unit step by step
(R91, R92, R93, R96) and the command ADLER32 (R97), which runs the unit. -/

namespace Sys2Proof.Machine

/-- `ADLER_BASE` (00_scope R5). -/
abbrev adlerBase : Nat := 65521

/-- One step of the recurrences of R90, on natural numbers: `(a, b)` and the next byte. -/
def adlerSumStep (p : Nat × Nat) (d : Byte) : Nat × Nat :=
  let a := (p.1 + d.toNat) % adlerBase
  (a, (p.2 + a) % adlerBase)

/-- `(a_n, b_n)` of R90, from `a_0 = 1`, `b_0 = 0`. -/
def adlerSums (ds : List Byte) : Nat × Nat := ds.foldl adlerSumStep (1, 0)

/-- The function `adler32` (R90). -/
def adler32 (ds : List Byte) : Word :=
  BitVec.ofNat 32 ((adlerSums ds).2 * 65536 + (adlerSums ds).1)

/-- The unit's registers `S1`, `S2`, `N` (10_state R26). -/
structure AdlerRegs where
  s1 : Word
  s2 : Word
  n : BitVec 13
deriving DecidableEq, Repr

/-- Start of a computation (R91). -/
def adlerStart : AdlerRegs := ⟨1, 0, 5552⟩

/-- The three register writes of R92, before the test of `N`: `S2` uses the `S1` just written. -/
def adlerAdd (r : AdlerRegs) (d : Byte) : AdlerRegs :=
  let s1 := r.s1 + d.setWidth 32
  ⟨s1, r.s2 + s1, r.n - 1⟩

/-- Both sums modulo 65521, `N` as it is (R96). -/
def adlerReduce (r : AdlerRegs) : AdlerRegs :=
  ⟨r.s1 % 65521, r.s2 % 65521, r.n⟩

/-- Batch reduction (R93). -/
def adlerBatch (r : AdlerRegs) : AdlerRegs :=
  { adlerReduce r with n := 5552 }

/-- Accumulation of one byte (R92). -/
def adlerAccumulate (r : AdlerRegs) (d : Byte) : AdlerRegs :=
  let r' := adlerAdd r d
  if r'.n = 0 then adlerBatch r' else r'

/-- A whole computation: R91, R92 for each byte in order, the final reduction of R96. -/
def adlerRun (ds : List Byte) : AdlerRegs :=
  adlerReduce (ds.foldl adlerAccumulate adlerStart)

/-- The result word `(S2 << 16) | S1` (R96). -/
def adlerWord (r : AdlerRegs) : Word := r.s2 <<< 16 ||| r.s1

/-- The uncompressed stream, `BUF[STREAM_OFF .. STREAM_OFF + 2351]` (20_memory R58). -/
def State.stream (s : State) : List Byte := s.bufBytes s.streamOff streamLen

/-- The result of a computation into the field at `ADLER_OFF` and into the registers (R97). `PTR` is
left at the next byte, past the stream (log 11). -/
def State.storeAdler (s : State) (r : AdlerRegs) : State :=
  (s.memWrite s.adlerOff 4 (adlerWord r)).setAdler r.s1 r.s2 r.n
    (BitVec.ofNat 12 (s.streamOff + streamLen))

/-- The effect of ADLER32 (R97). -/
def State.patchAdler (s : State) : State := s.storeAdler (adlerRun s.stream)

/-- `ADLER32` (R97). -/
def execAdler32 (s : State) : Host.Outcome State Fault Refusal := .next s.patchAdler.complete

end Sys2Proof.Machine
end

