-- ==== Sys2Proof/Machine/Flags.lean ====
section
/-! DEFINITION. The three flags of STATUS (10_state R30). There are no arithmetic flags. -/

namespace Sys2Proof.Machine

/-- `TABV <- 1` (41_crc32 R113); only `Reset` clears it. -/
def State.setTabv (s : State) : State := { s with tabv := true }

/-- `OUTV <- v` (42_base64 R139). -/
def State.setOutv (s : State) (v : Bool) : State := { s with outv := v }

/-- The STATUS word: `TABV` in bit 0, `FAULTED` in bit 1, `OUTV` in bit 2, the rest zero. -/
def State.statusWord (s : State) : Word :=
  (BitVec.ofBool s.outv ++ BitVec.ofBool s.faulted ++ BitVec.ofBool s.tabv).setWidth 32

end Sys2Proof.Machine
end

