-- ==== Sys2Proof/Machine/Base64.lean ====
section
/-! DEFINITION. The base64 unit (42_base64): the alphabet (R130), the function `b64` (R131 to R135),
the unit register by register (R139, R140) and the command B64ENC (R139), which runs the unit. -/

namespace Sys2Proof.Machine

/-- The alphabet "in one line, index 0 first" (R130). -/
def alphabet : List Char :=
  ['A', 'B', 'C', 'D', 'E', 'F', 'G', 'H', 'I', 'J', 'K', 'L', 'M'] ++
  ['N', 'O', 'P', 'Q', 'R', 'S', 'T', 'U', 'V', 'W', 'X', 'Y', 'Z'] ++
  ['a', 'b', 'c', 'd', 'e', 'f', 'g', 'h', 'i', 'j', 'k', 'l', 'm'] ++
  ['n', 'o', 'p', 'q', 'r', 's', 't', 'u', 'v', 'w', 'x', 'y', 'z'] ++
  ['0', '1', '2', '3', '4', '5', '6', '7', '8', '9', '+', '/']

/-- The character of a sextet. -/
def alphabetChar (x : BitVec 6) : Char := alphabet.getD x.toNat '='

/-- A character as it is stored in `OUT`: its ASCII code (10_state R23). -/
def asciiCode (c : Char) : Byte := BitVec.ofNat 8 c.toNat

/-- The pad character `=`, ASCII 0x3D (R130). -/
def padCode : Byte := 0x3D

/-- `ALPHA[s]` as the unit computes it: the "as a formula" column of R130. -/
def alpha (x : BitVec 6) : Byte :=
  if x < 26 then x.setWidth 8 + 65
  else if x < 52 then x.setWidth 8 + 71
  else if x < 62 then x.setWidth 8 - 4
  else if x = 62 then 43
  else 47

/-- The function `b64` (R135): full groups by R132, the tail by R133 or R134, with the sextets of
R131. -/
def b64 : List Byte → List Char
  | [] => []
  | [b0] =>
    [alphabetChar (b0.extractLsb' 2 6), alphabetChar (b0.extractLsb' 0 2 ++ 0#4), '=', '=']
  | [b0, b1] =>
    [alphabetChar (b0.extractLsb' 2 6), alphabetChar (b0.extractLsb' 0 2 ++ b1.extractLsb' 4 4),
     alphabetChar (b1.extractLsb' 0 4 ++ 0#2), '=']
  | b0 :: b1 :: b2 :: rest =>
    [alphabetChar (b0.extractLsb' 2 6), alphabetChar (b0.extractLsb' 0 2 ++ b1.extractLsb' 4 4),
     alphabetChar (b1.extractLsb' 0 4 ++ b2.extractLsb' 6 2), alphabetChar (b2.extractLsb' 0 6)] ++
    b64 rest

/-- The unit's registers `G`, `CNT`, `OPTR` (10_state R28, R29). -/
structure B64Regs where
  g : BitVec 24
  cnt : BitVec 2
  optr : BitVec 12
deriving DecidableEq, Repr

/-- Start of a run (R139). -/
def b64Start : B64Regs := ⟨0, 0, 0⟩

/-- A byte enters `G` at the bottom (R139, R140). -/
def b64Push (r : B64Regs) (d : Byte) : B64Regs :=
  { r with g := r.g <<< 8 ||| d.setWidth 24, cnt := r.cnt + 1 }

/-- `ALPHA[G[23:18]]`, `ALPHA[G[17:12]]`, `ALPHA[G[11:6]]`, `ALPHA[G[5:0]]` (R131, R139). -/
def groupChars (g : BitVec 24) : List Byte :=
  [alpha (g.extractLsb' 18 6), alpha (g.extractLsb' 12 6), alpha (g.extractLsb' 6 6),
   alpha (g.extractLsb' 0 6)]

/-- The loop of R139 over the input bytes: the registers after it and the characters it writes, in
the order of `OPTR`. -/
def b64Loop : B64Regs → List Byte → B64Regs × List Byte
  | r, [] => (r, [])
  | r, d :: ds =>
    let r' := b64Push r d
    if r'.cnt = 3 then
      let rest := b64Loop ⟨0, 0, r'.optr + 4⟩ ds
      (rest.1, groupChars r'.g ++ rest.2)
    else b64Loop r' ds

/-- The tail of R139 after the loop: `CNT = 1`, `CNT = 2`, or nothing held. -/
def b64Tail (r : B64Regs) : B64Regs × List Byte :=
  if r.cnt = 1 then
    let g := r.g <<< 16
    (⟨g, r.cnt, r.optr + 4⟩, (groupChars g).take 2 ++ [padCode, padCode])
  else if r.cnt = 2 then
    let g := r.g <<< 8
    (⟨g, r.cnt, r.optr + 4⟩, (groupChars g).take 3 ++ [padCode])
  else (r, [])

/-- The whole procedure of R139 on any byte sequence: the registers it leaves and the characters it
writes from `OUT[0]` up. -/
def b64Run (ds : List Byte) : B64Regs × List Byte :=
  let body := b64Loop b64Start ds
  let tail := b64Tail body.1
  (tail.1, body.2 ++ tail.2)

/-- What B64ENC leaves of a run of the unit (R139). `OUTV` and `OUTLEN` are cleared first and set at
the end; the command is atomic (00_scope R6). `PTR` is left at 2452, past the source stream (log
11). -/
def State.storeText (s : State) (r : B64Regs × List Byte) : State :=
  let written := ((s.setOutv false).setOutlen 0).outWrite 0 r.2
  ((written.setB64 r.1.g r.1.cnt (BitVec.ofNat 12 srcSize) r.1.optr).setOutlen r.1.optr).setOutv true

/-- The effect of B64ENC (R139). -/
def State.writeText (s : State) : State := s.storeText (b64Run s.srcStream)

/-- `B64ENC` (R139). -/
def execB64enc (s : State) : Host.Outcome State Fault Refusal := .next s.writeText.complete

end Sys2Proof.Machine
end

