-- ==== Sys2Proof/Machine/Operands.lean ====
section
/-! DEFINITION. The operand form of CRC32 and its effective addresses (20_memory R65, 41_crc32
R117): natural numbers, no wrap-around, no scaling. `off` is the address of the chunk's length
field, `len` the size of the whole chunk. -/

namespace Sys2Proof.Machine

/-- The bounds check of 41_crc32 R117: `len >= 12` and `off + len <= 2444`, the sum exact. -/
def chunkInBounds (off len : BitVec 12) : Bool :=
  12 ≤ len.toNat && off.toNat + len.toNat ≤ bufSize

/-- The first covered byte: past the length field (41_crc32 R117). -/
def coveredStart (off : BitVec 12) : Nat := off.toNat + 4

/-- How many bytes are covered: all but the length field and the CRC field (41_crc32 R117). -/
def coveredLen (len : BitVec 12) : Nat := len.toNat - 8

/-- The address of the chunk's trailing 4 bytes (41_crc32 R117). -/
def trailerAddr (off len : BitVec 12) : Nat := off.toNat + len.toNat - 4

/-- The covered bytes, type then data, in increasing address order. -/
def State.coveredBytes (s : State) (off len : BitVec 12) : List Byte :=
  s.bufBytes (coveredStart off) (coveredLen len)

end Sys2Proof.Machine
end

