-- ==== Sys2Proof/Machine/Crc.lean ====
section
/-! DEFINITION. The CRC-32 unit (41_crc32): the table (R110, R111), the update (R114), the function
`crc32` (R115), and the commands CRCINIT (R113) and CRC32 (R117). -/

namespace Sys2Proof.Machine

/-- `CRC_POLY`, reflected form (R110). -/
def crcPoly : Word := 0xEDB88320

/-- One conditional shift-and-exclusive-or step (R111). -/
def step1 (c : Word) : Word :=
  if c.getLsbD 0 then crcPoly ^^^ (c >>> 1) else c >>> 1

/-- `step1` applied 8 times (R111). -/
def step8 (c : Word) : Word :=
  step1 (step1 (step1 (step1 (step1 (step1 (step1 (step1 c)))))))

/-- `TAB[i] = step8(zext_32(i))` for `i = 0..255` (R111). -/
def crcTable : Vector Word 256 :=
  ⟨⟨(List.range 256).map fun i => step8 (BitVec.ofNat 32 i)⟩, by simp⟩

/-- Update by one byte (R114): `CRC <- TAB[(CRC ^ zext_32(d))[7:0]] ^ (CRC >> 8)`. -/
def crcUpdate (t : Vector Word 256) (c : Word) (d : Byte) : Word :=
  let i : BitVec 8 := (c ^^^ d.setWidth 32).extractLsb' 0 8
  t[i.toNat]'i.isLt ^^^ (c >>> 8)

/-- `CRC_INIT` and `CRC_XOROUT` (00_scope R5). -/
def crcOnes : Word := 0xFFFFFFFF

/-- The register after the bytes `ds`, from the initial complement, with the table `t`. -/
def crcRun (t : Vector Word 256) (ds : List Byte) : Word := ds.foldl (crcUpdate t) crcOnes

/-- The function `crc32` (R115). -/
def crc32 (ds : List Byte) : Word := crcRun crcTable ds ^^^ crcOnes

/-- The bitwise form of the update (R116): the byte into the low 8 bits, then `step8`. -/
def crcUpdateBitwise (c : Word) (d : Byte) : Word := step8 (c ^^^ d.setWidth 32)

/-- The effect of CRCINIT (R113): the table, `TABV <- 1`; the final value of `CRC` is unspecified (log
10). -/
def State.buildTable (s : State) : State := ((s.setTab crcTable).freeCrc).setTabv

/-- `CRCINIT` (R113). -/
def execCrcinit (s : State) : Host.Outcome State Fault Refusal := .next s.buildTable.complete

/-- The effect of a CRC32 that passes its checks (R117). `PTR` is left at the next byte, the
trailer's first (log 11). -/
def State.patchCrc (s : State) (off len : BitVec 12) : State :=
  let c := crcRun s.tab (s.coveredBytes off len)
  (s.memWrite (trailerAddr off len) 4 (c ^^^ crcOnes)).setCrc c
    (BitVec.ofNat 12 (trailerAddr off len))

/-- `CRC32 off, len` (R117): `TABV` first, then the bounds, before anything is written; `FINFO`
gets the command word (log 21). -/
def execCrc32 (off len : BitVec 12) (s : State) : Host.Outcome State Fault Refusal :=
  if s.tabv = false then .next (s.raiseFault .tableNotBuilt (encode (.crc32 off len)))
  else if chunkInBounds off len = false then
    .next (s.raiseFault .boundsFault (encode (.crc32 off len)))
  else .next (s.patchCrc off len).complete

end Sys2Proof.Machine
end

