-- ==== Sys2Proof/Machine/Dispatch.lean ====
section
/-! DEFINITION. One arm per command: the sequencer's execution of a decoded command (00_scope R6).
`Issue` (Machine/Issue.lean) makes the checks of 60_exceptions R153 that come before it. -/

namespace Sys2Proof.Machine

def exec (i : Instr) (s : State) : Host.Outcome State Fault Refusal :=
  match i with
  | .adler32 => Sys2Proof.Machine.execAdler32 s
  | .crcinit => Sys2Proof.Machine.execCrcinit s
  | .crc32 off len => Sys2Proof.Machine.execCrc32 off len s
  | .b64enc => Sys2Proof.Machine.execB64enc s

end Sys2Proof.Machine
end

