-- ==== Sys2Proof/Machine/HostPort.lean ====
section
/-! DEFINITION. The host's six actions (70_reset R176), each on a state whose pending list no longer
holds the action. `WriteBuf`, `ReadBuf`, `ReadOut` and `ReadStatus` work also while faulted
(60_exceptions R157). -/

namespace Sys2Proof.Machine

/-- `Reset` (70_reset R170): every piece of state at its reset value (10_state R36); the model's own
parameters, pending actions and draw count stay (log 8). -/
def hostReset (s : State) : Host.Outcome State Fault Refusal :=
  .next { State.reset with params := s.params, host := s.host, draws := s.draws }

/-- `WriteBuf(a, v)`: `BUF[a] <- v`, nothing else; refused outside `BUF` (10_state R35). -/
def hostWriteBuf (a : Nat) (v : Byte) (s : State) : Host.Outcome State Fault Refusal :=
  if a < bufSize then .next ((s.bufWrite a [v]).answer .nothing) else .refused (.bufAddress a)

/-- `ReadBuf(a)`: hands back `BUF[a]`; refused outside `BUF` (10_state R35). -/
def hostReadBuf (a : Nat) (s : State) : Host.Outcome State Fault Refusal :=
  if a < bufSize then .next (s.answer (.byte (s.bufByte a))) else .refused (.bufAddress a)

/-- `ReadOut(i)`: hands back `OUT[i]` below `OUTLEN`, any byte from `OUTLEN` up (10_state R35, log
9); refused outside `OUT`. -/
def hostReadOut (i : Nat) (s : State) : Host.Outcome State Fault Refusal :=
  if i < outSize then
    if i < s.outlen.toNat then .next (s.answer (.byte (s.outByte i))) else .next s.answerFree
  else .refused (.outIndex i)

/-- `ReadStatus()`: hands back the STATUS word, `FCAUSE`, `FINFO` and `OUTLEN` (70_reset R176). -/
def hostReadStatus (s : State) : Host.Outcome State Fault Refusal :=
  .next (s.answer (.status s.statusWord s.fcause s.finfo s.outlen))

/-- `Issue(w)` in the fixed order of 60_exceptions R153: ignored while faulted (R157), then decode
(an illegal word faults), then the command, which makes its own checks. -/
def hostIssue (w : Word) (s : State) : Host.Outcome State Fault Refusal :=
  if s.faulted then .next (s.answer .returned)
  else
    match decode w with
    | .illegal _ => .next ((s.answer .returned).raiseFault .illegalCommand w)
    | .command i => exec i (s.answer .returned)

/-- One action of the host. -/
def perform (act : HostAction) (s : State) : Host.Outcome State Fault Refusal :=
  match act with
  | .reset => hostReset s
  | .writeBuf a v => hostWriteBuf a v s
  | .readBuf a => hostReadBuf a s
  | .issue w => hostIssue w s
  | .readOut i => hostReadOut i s
  | .readStatus => hostReadStatus s

/-- The oldest pending action is taken off and performed. With none pending the block waits for the
host (70_reset R172, 60_exceptions R154): nothing happens (log 2). -/
def hostTurn (s : State) : Host.Outcome State Fault Refusal :=
  match s.host with
  | [] => .next s
  | act :: rest => perform act (s.setHost rest)

/-- The host's next action is `Issue` of the word `w` of `nbits` bits (log 1, log 20). -/
def placeWord (s : State) (nbits w : Nat) : State :=
  s.setHost (.issue (BitVec.ofNat 32 (w % 2 ^ nbits)) :: s.host)

end Sys2Proof.Machine
end

