-- ==== Sys2Proof/WellFormed.lean ====
section
/-! DEFINITION. Which commands and which assembler lines are well formed. Every value of a
`CRC32`'s two 12-bit operands is legal for the decoder (30_encoding R72, R80: which values may
run is decided by the command), so every term of `Instr` is well formed; the checks the spec has
are the assembler's, on a source line (30_encoding R77). -/

namespace Sys2Proof

/-- Format R "has no operand restriction at decode" (30_encoding R80), and format Z has no operand
to restrict once decoded. -/
def Instr.wellFormed : Instr → Bool
  | .adler32 => true
  | .crcinit => true
  | .crc32 _ _ => true
  | .b64enc => true

/-- What may stand as the mnemonic of a source line: the four commands (30_encoding R77) and the
pseudo-instructions (R78). -/
inductive Mnemonic where
  | adler32 | crcinit | crc32 | b64enc
  | crcIhdr | crcPlte | crcTrns | crcIdat | crcIend | crcAll | finish
deriving DecidableEq, Repr

/-- One source line after its mnemonic has been recognised: operands are numbers of any size. -/
structure SourceLine where
  mnemonic : Mnemonic
  operands : List Nat
deriving DecidableEq, Repr

/-- CRC32 takes two operands, every other line none (30_encoding R77, R78). -/
def SourceLine.arityOk (l : SourceLine) : Bool :=
  match l.mnemonic with
  | .crc32 => l.operands.length == 2
  | .adler32 | .crcinit | .b64enc => l.operands.length == 0
  | .crcIhdr | .crcPlte | .crcTrns | .crcIdat | .crcIend | .crcAll | .finish =>
    l.operands.length == 0

/-- "`off` and `len` must each fit in 12 bits or the assembler rejects the line" (R77); the bounds
of 41_crc32 R117 are not checked here. -/
def SourceLine.operandsFit (l : SourceLine) : Bool :=
  l.operands.all (· < 4096)

/-- The assembler accepts a line that passes both checks (30_encoding R77). -/
def SourceLine.wellFormed (l : SourceLine) : Bool :=
  l.arityOk && l.operandsFit

end Sys2Proof
end

