-- ==== Sys2Proof/Machine/Asm.lean ====
section
/-! DEFINITION. The assembler of 30_encoding R77, the pseudo-instructions of R78 and the disassembly
of R81, on text as a list of characters. Conventions the spec leaves open (blanks, empty lines, the
digits of an illegal word) are in log 19. -/

namespace Sys2Proof.Machine

/-! ### Pseudo-instructions -/

/-- `CRC32` on one chunk of the map (30_encoding R78). -/
def crcOfChunk (c : Chunk) : Instr := .crc32 (BitVec.ofNat 12 c.off) (BitVec.ofNat 12 c.len)

/-- `CRC.ALL` (30_encoding R78): the five chunks in the source's listing order. -/
def crcAll (m : ChunkMap) : List Instr :=
  [crcOfChunk m.ihdr, crcOfChunk m.plte, crcOfChunk m.trns, crcOfChunk m.idat, crcOfChunk m.iend]

/-- What a recognised, well-formed source line stands for (30_encoding R77, R78). -/
def lineInstrs (m : ChunkMap) (l : SourceLine) : List Instr :=
  match l.mnemonic with
  | .adler32 => [.adler32]
  | .crcinit => [.crcinit]
  | .crc32 => [.crc32 (BitVec.ofNat 12 (l.operands.getD 0 0)) (BitVec.ofNat 12 (l.operands.getD 1 0))]
  | .b64enc => [.b64enc]
  | .crcIhdr => [crcOfChunk m.ihdr]
  | .crcPlte => [crcOfChunk m.plte]
  | .crcTrns => [crcOfChunk m.trns]
  | .crcIdat => [crcOfChunk m.idat]
  | .crcIend => [crcOfChunk m.iend]
  | .crcAll => crcAll m
  | .finish => [.adler32] ++ crcAll m ++ [.b64enc]

/-- The command words of a source line; `none` where the assembler rejects it (R77). -/
def assembleSource (m : ChunkMap) (l : SourceLine) : Option (List Word) :=
  if l.wellFormed then some ((lineInstrs m l).map encode) else none

/-! ### Reading a line -/

/-- A blank between the parts of a line. -/
def isBlank (c : Char) : Bool := c == ' ' || c == '\t'

/-- The text without blanks at either end. -/
def trimBlanks (cs : List Char) : List Char :=
  ((cs.dropWhile isBlank).reverse.dropWhile isBlank).reverse

/-- `;` starts a comment (R77). -/
def dropComment (cs : List Char) : List Char := cs.takeWhile (· != ';')

/-- The parts between commas. -/
def splitCommas : List Char → List (List Char)
  | [] => [[]]
  | c :: cs =>
    if c = ',' then [] :: splitCommas cs
    else
      match splitCommas cs with
      | [] => [[c]]
      | w :: ws => (c :: w) :: ws

/-- The value of a digit in the given base. -/
def digitValue (base : Nat) (c : Char) : Option Nat :=
  let k := c.toNat
  let v :=
    if 48 ≤ k ∧ k ≤ 57 then k - 48
    else if 65 ≤ k ∧ k ≤ 70 then k - 55
    else if 97 ≤ k ∧ k ≤ 102 then k - 87
    else 16
  if v < base then some v else none

/-- Digits in the given base, most significant first, after `acc`. -/
def readDigits (base : Nat) : Nat → List Char → Option Nat
  | acc, [] => some acc
  | acc, c :: cs =>
    match digitValue base c with
    | none => none
    | some v => readDigits base (acc * base + v) cs

/-- An operand, "decimal or `0x` hexadecimal" (R77). -/
def readNumber : List Char → Option Nat
  | [] => none
  | '0' :: 'x' :: c :: cs => readDigits 16 0 (c :: cs)
  | c :: cs => readDigits 10 0 (c :: cs)

/-- The operands of a line: none, or numbers "separated by a comma" (R77). -/
def readOperands (cs : List Char) : Option (List Nat) :=
  match trimBlanks cs with
  | [] => some []
  | c :: rest => (splitCommas (c :: rest)).mapM fun w => readNumber (trimBlanks w)

/-- The mnemonics as they are written (30_encoding R77, R78). -/
def mnemonicText : Mnemonic → List Char
  | .adler32 => ['A', 'D', 'L', 'E', 'R', '3', '2']
  | .crcinit => ['C', 'R', 'C', 'I', 'N', 'I', 'T']
  | .crc32 => ['C', 'R', 'C', '3', '2']
  | .b64enc => ['B', '6', '4', 'E', 'N', 'C']
  | .crcIhdr => ['C', 'R', 'C', '.', 'I', 'H', 'D', 'R']
  | .crcPlte => ['C', 'R', 'C', '.', 'P', 'L', 'T', 'E']
  | .crcTrns => ['C', 'R', 'C', '.', 'T', 'R', 'N', 'S']
  | .crcIdat => ['C', 'R', 'C', '.', 'I', 'D', 'A', 'T']
  | .crcIend => ['C', 'R', 'C', '.', 'I', 'E', 'N', 'D']
  | .crcAll => ['C', 'R', 'C', '.', 'A', 'L', 'L']
  | .finish => ['F', 'I', 'N', 'I', 'S', 'H']

/-- All mnemonics. -/
def allMnemonics : List Mnemonic :=
  [.adler32, .crcinit, .crc32, .b64enc, .crcIhdr, .crcPlte, .crcTrns, .crcIdat, .crcIend, .crcAll,
   .finish]

/-- One line of source to its command words (R77, R78): "One command per line"; a line with nothing
before its comment gives no word (log 19). -/
def assembleLine (m : ChunkMap) (cs : List Char) : Option (List Word) :=
  match trimBlanks (dropComment cs) with
  | [] => some []
  | c :: rest =>
    let text := c :: rest
    let name := text.takeWhile fun x => !isBlank x
    match allMnemonics.find? fun k => mnemonicText k == name, readOperands (text.drop name.length) with
    | some k, some ops => assembleSource m ⟨k, ops⟩
    | _, _ => none

/-! ### Printing a word -/

/-- The hexadecimal digits of a word, capital letters, eight of them. -/
def hexDigits (w : Word) : List Char :=
  (List.range 8).map fun k =>
    ['0', '1', '2', '3', '4', '5', '6', '7', '8', '9', 'A', 'B', 'C', 'D', 'E', 'F'].getD
      (w.extractLsb' (4 * (7 - k)) 4).toNat '0'

/-- A legal command's text: "its mnemonic, with `off` and `len` in decimal for CRC32" (R81). -/
def printInstr : Instr → List Char
  | .adler32 => mnemonicText .adler32
  | .crcinit => mnemonicText .crcinit
  | .crc32 off len =>
    mnemonicText .crc32 ++ [' '] ++ Nat.toDigits 10 off.toNat ++ [',', ' '] ++
      Nat.toDigits 10 len.toNat
  | .b64enc => mnemonicText .b64enc

/-- Disassembly (R81): an illegal word prints as `.word 0x…`. -/
def disassemble (w : Word) : List Char :=
  match decode w with
  | .command i => printInstr i
  | .illegal _ => ['.', 'w', 'o', 'r', 'd', ' ', '0', 'x'] ++ hexDigits w

end Sys2Proof.Machine
end

