-- ==== Sys2Proof/Machine/HostScript.lean ====
section
/-! DEFINITION. The host's buffer writes as the source describes them (70_reset R177) and its
start-up and use sequence (R173), as lists of host actions: surrounding software, none of it
behaviour of the block (00_scope R4). The bytes the source leaves open (colour channels, the alpha
byte, the palette index of a pixel) are arguments (log 22). -/

namespace Sys2Proof.Machine

/-- `SetPaletteColor` for index `k` (R177): red, green, blue into PLTE, one byte into tRNS. -/
def setPaletteColor (m : ChunkMap) (k : Fin 2) (r g b alphaByte : Byte) : List HostAction :=
  [.writeBuf (m.plte.off + 8 + 3 * k) r, .writeBuf (m.plte.off + 8 + 3 * k + 1) g,
   .writeBuf (m.plte.off + 8 + 3 * k + 2) b, .writeBuf (m.trns.off + 8 + k) alphaByte]

/-- One row of `EmbedBitmap` (R177): the filter byte 0, then 48 pixel bytes. -/
def embedRow (streamOff : Nat) (y : Nat) (pixels : Vector Byte 48) : List HostAction :=
  .writeBuf (streamOff + 49 * y) 0 ::
    (List.range 48).map fun x => .writeBuf (streamOff + 49 * y + 1 + x) (pixels.toList.getD x 0)

/-- `EmbedBitmap` (R177): 48 rows. -/
def embedBitmap (streamOff : Nat) (rows : Vector (Vector Byte 48) 48) : List HostAction :=
  (List.range 48).flatMap fun y =>
    embedRow streamOff y (rows.toList.getD y (Vector.replicate 48 0))

/-- The four bytes one call of `SetPaletteColor` writes. How `r`, `g`, `b` channel values become bytes
"is not stated" (R177; 91_not_in_source N6, U11), so that each channel is a byte of its own. -/
structure PaletteEntry where
  red : Byte
  green : Byte
  blue : Byte
  alphaByte : Byte
deriving DecidableEq, Repr

/-- Steps 1 to 8 of R173. DESIGN CHOICE (log 22): the bytes of the two colours and of the pixels, which
the source leaves open (N6, N7, U2, U11), are arguments, one for each channel of each colour, so that
nothing relates the channels; `white` is index 0 and `black` index 1 (R177). -/
def useSequence (m : ChunkMap) (streamOff : Nat) (white black : PaletteEntry)
    (rows : Vector (Vector Byte 48) 48) : List HostAction :=
  [.reset, .issue (encode .crcinit)] ++
  setPaletteColor m 0 white.red white.green white.blue white.alphaByte ++
  setPaletteColor m 1 black.red black.green black.blue black.alphaByte ++
  embedBitmap streamOff rows ++
  [.issue (encode .adler32)] ++ (crcAll m).map (fun i => .issue (encode i)) ++
  [.issue (encode .b64enc), .readStatus] ++ (List.range outSize).map .readOut

end Sys2Proof.Machine
end

