-- ==== Sys2Proof/Safety.lean ====
section
/-! DEFINITION. What counts as a safe run, in the terms claims use: going wrong and the end of a run
(70_reset R174, 60_exceptions R157, R163), what no step may rest on (10_state R37, R36), and the
invariants every step keeps. -/

namespace Sys2Proof.Machine

/-- "a model treats `FAULTED = 1` as 'gone wrong', never as a final state" (60_exceptions R157). -/
def State.goneWrong (s : State) : Prop := s.faulted = true

/-- A run of `program` has ended (70_reset R174). -/
def State.runEnded (program : List Word) (s : State) : Prop :=
  s.pc = program.length ∧ s.faulted = false

/-- The result of a run that ended (70_reset R174): `BUF`, `OUT[0 .. OUTLEN-1]` and `STATUS`. -/
def State.runResult (s : State) : List Byte × List Byte × Word :=
  (s.bufBytes 0 bufSize, s.outBytes s.outlen.toNat, s.statusWord)

/-- The next word of a run of `program` (10_state R32): `program[pc]` while `FAULTED = 0` and words
are left. -/
def State.nextWord (program : List Word) (s : State) : Option Word :=
  if s.faulted then none else program[s.pc]?

/-- The host issues every word of `program` in order (10_state R32). -/
def issueAll (program : List Word) : List HostAction := program.map .issue

/-- The commands of a list executed in order, each from the state the one before left
(20_memory R61). -/
def execAll : List Instr → State → Host.Outcome State Fault Refusal
  | [], s => .next s
  | i :: is, s =>
    match exec i s with
    | .next t => execAll is t
    | .fault r => .fault r
    | .refused r => .refused r

/-- The launch premise of a claim about a run (70_reset R175): the reset state for some parameters,
with the host's actions given. -/
def State.launched (p : Params) (acts : List HostAction) (s : State) : Prop :=
  s = { State.reset with params := p, host := acts }

/-- The host's next action is `Issue(w)`. -/
def State.issuesNext (s : State) (w : Word) : Prop := s.host.head? = some (.issue w)

/-- The host's next action is `Reset`. -/
def State.resetsNext (s : State) : Prop := s.host.head? = some .reset

/-- The host's next action is an access outside a memory (10_state R35), and how it is refused. -/
def State.accessOutside (s : State) (r : Refusal) : Prop :=
  (∃ a v, s.host.head? = some (.writeBuf a v) ∧ 2444 ≤ a ∧ r = .bufAddress a) ∨
  (∃ a, s.host.head? = some (.readBuf a) ∧ 2444 ≤ a ∧ r = .bufAddress a) ∨
  (∃ i, s.host.head? = some (.readOut i) ∧ 3272 ≤ i ∧ r = .outIndex i)

/-- `s` without the working registers, which "have no effect on any later command" (10_state R37),
and without the table while `TABV = 0`, when it is unreadable (10_state R36). -/
def State.visible (s : State) : State :=
  { s with
    s1 := 0, s2 := 0, n := 0, crc := 0, g := 0, cnt := 0, ptr := 0, optr := 0
    tab := if s.tabv then s.tab else Vector.replicate 256 0 }

/-- An outcome seen without what `State.visible` hides. -/
def visibleOutcome : Host.Outcome State Fault Refusal → Host.Outcome State Fault Refusal
  | .next s => .next s.visible
  | .fault r => .fault r
  | .refused r => .refused r

/-- Both byte memories are in canonical form. -/
def State.memoriesCanonical (s : State) : Prop := s.bufWf ∧ s.outWf

/-- While `TABV = 1` the table is the one of 41_crc32 R111 (10_state R25: "Its contents after
CRCINIT are fixed constants"). -/
def State.tableBuilt (s : State) : Prop := s.tabv = true → s.tab = crcTable

/-- `OUTLEN` is 0 or 3272 and `OUTV` tells which (10_state R24, R30). -/
def State.outputLength (s : State) : Prop :=
  (s.outv = false ∧ s.outlen = 0) ∨ (s.outv = true ∧ s.outlen = 3272)

/-- `FCAUSE` and `FINFO` are 0 while there has been no fault, and `FCAUSE` is one of the three codes
once there has (10_state R31, 60_exceptions R151). -/
def State.faultRecord (s : State) : Prop :=
  (s.faulted = false ∧ s.fcause = 0 ∧ s.finfo = 0) ∨
  (s.faulted = true ∧ ∃ c : Fault, s.fcause = c.code)

/-- While `OUTV = 1`, `OUT` begins with the ten characters the signature alone decides and ends with
two pads (42_base64 R139, R142), and everything below `OUTLEN` is an alphabet character or a pad
(R137). -/
def State.outputText (s : State) : Prop :=
  s.outv = true →
    s.outBytes 10 = (['i', 'V', 'B', 'O', 'R', 'w', '0', 'K', 'G', 'g']).map asciiCode ∧
    s.outByte 3270 = padCode ∧ s.outByte 3271 = padCode ∧
    ∀ j, j < 3270 → s.outByte j ∈ alphabet.map asciiCode

end Sys2Proof.Machine
end

