-- ==== Sys2Proof/Certificates/Slice0/Obligations.lean ====
section
/-! DEFINITION. The statements for the provers, in the order of the spec's files. Each docstring says
which rule it formalises. Wherever a statement mentions `host` (the pending actions) or `reply`
(what an action hands back), that is the model's form of a host action, log 1, and no rule's. -/

open Sys2Proof Sys2Proof.Machine

/-! ### 10_state -/

/-- 10_state R36: the values the spec gives for reset. The unspecified ones are not stated. -/
def Obligations.ResetLeavesTheStatedValues : Prop :=
  (∀ (a : Nat) (h : a < 2444), State.reset.bufByte a = Config.template[a]) ∧
  sig = [0x89, 0x50, 0x4E, 0x47, 0x0D, 0x0A, 0x1A, 0x0A] ∧
  State.reset.outlen = 0 ∧ State.reset.tabv = false ∧ State.reset.faulted = false ∧
  State.reset.outv = false ∧ State.reset.fcause = 0 ∧ State.reset.finfo = 0 ∧ State.reset.pc = 0

/-- 10_state R30: the STATUS word, and for each flag the only events that set or clear it. -/
def Obligations.StatusFlagsSetAndClearedAsListed : Prop :=
  (∀ s : State, s.statusWord.getLsbD 0 = s.tabv ∧ s.statusWord.getLsbD 1 = s.faulted ∧
    s.statusWord.getLsbD 2 = s.outv ∧ ∀ j, 3 ≤ j → s.statusWord.getLsbD j = false) ∧
  (∀ s t w, s.issuesNext w → s.faulted = false → step s = .next t →
    (t.tabv = true ↔ s.tabv = true ∨ decode w = .command .crcinit) ∧
    (t.outv = true ↔ s.outv = true ∨ decode w = .command .b64enc) ∧
    (t.faulted = true ↔ (∃ why, decode w = .illegal why) ∨
      ∃ off len, decode w = .command (.crc32 off len) ∧
        (s.tabv = false ∨ chunkInBounds off len = false))) ∧
  (∀ s t, s.resetsNext → step s = .next t →
    t.tabv = false ∧ t.faulted = false ∧ t.outv = false) ∧
  (∀ s t, ¬ s.resetsNext → (∀ w, s.issuesNext w → s.faulted = true) → step s = .next t →
    t.tabv = s.tabv ∧ t.faulted = s.faulted ∧ t.outv = s.outv)

/-- 10_state R31: `FCAUSE` and `FINFO` hold the first fault since reset, 0 when there has been none;
written only by fault entry and cleared only by Reset. -/
def Obligations.FaultRegistersHoldTheFirstFault : Prop :=
  State.reset.faultRecord ∧
  (∀ s t, s.faultRecord → step s = .next t → t.faultRecord) ∧
  (∀ s t, step s = .next t → (t.fcause ≠ s.fcause ∨ t.finfo ≠ s.finfo) →
    (s.resetsNext ∧ t.fcause = 0 ∧ t.finfo = 0) ∨
    ∃ w, s.issuesNext w ∧ s.faulted = false ∧ t.faulted = true ∧ t.finfo = w)

/-- 10_state R24: `OUTLEN` is 0 after reset and 3272 after a completed B64ENC, and no other value
occurs: every step keeps it. -/
def Obligations.OutputLengthIsZeroOrWhole : Prop :=
  State.reset.outlen = 0 ∧
  (∀ s, ∃ t, exec .b64enc s = .next t ∧ t.outlen = 3272) ∧
  (∀ s t, s.outputLength → step s = .next t → t.outputLength)

/-- 10_state R32: the three ways `pc` moves, and that nothing but Reset does more. -/
def Obligations.CommandIndexCountsCompletions : Prop :=
  (∀ s t w, s.issuesNext w → s.faulted = true → step s = .next t → t.pc = s.pc) ∧
  (∀ s t w, s.issuesNext w → s.faulted = false → step s = .next t → t.faulted = true →
    t.pc = s.pc) ∧
  (∀ s t w, s.issuesNext w → s.faulted = false → step s = .next t → t.faulted = false →
    t.pc = s.pc + 1) ∧
  (∀ s t, (∀ w, ¬ s.issuesNext w) → ¬ s.resetsNext → step s = .next t → t.pc = s.pc)

/-- 10_state R21: the block writes `BUF` only in the Adler-32 field (ADLER32) and in the trailer of
the chunk a CRC32 names. -/
def Obligations.CommandsWriteBufOnlyInTwoPlaces : Prop :=
  ∀ s t w x, s.issuesNext w → step s = .next t → t.bufByte x ≠ s.bufByte x →
    (decode w = .command .adler32 ∧ s.adlerOff ≤ x ∧ x < s.adlerOff + 4) ∨
    ∃ off len, decode w = .command (.crc32 off len) ∧ s.tabv = true ∧
      chunkInBounds off len = true ∧ off.toNat + len.toNat - 4 ≤ x ∧ x < off.toNat + len.toNat

/-- 10_state R23 and R25: only B64ENC writes `OUT` and only CRCINIT writes `TAB` (Reset apart). With
it 70_reset R181: `OUT`, `OUTLEN` and `OUTV` are a snapshot that later actions leave alone. -/
def Obligations.OutputAndTableWrittenByOneCommandEach : Prop :=
  ∀ s t, ¬ s.resetsNext → step s = .next t →
    ((∀ w, s.issuesNext w → decode w ≠ .command .b64enc) →
      (∀ j, t.outByte j = s.outByte j) ∧ t.outlen = s.outlen ∧ t.outv = s.outv) ∧
    ((∀ w, s.issuesNext w → decode w ≠ .command .crcinit) → t.tab = s.tab)

/-- 10_state R37: what the working registers hold, and the table while it is unreadable, has no
effect on any later action of the host or command. -/
def Obligations.WorkingRegistersHaveNoEffect : Prop :=
  ∀ s t : State, s.visible = t.visible → visibleOutcome (step s) = visibleOutcome (step t)

/-- 10_state R33: the parameters are not state: no step changes them (that State carries three of them
is the model's form, log 3). -/
def Obligations.ParametersAreNeverChanged : Prop :=
  ∀ s t, step s = .next t → t.params = s.params

/-! ### 20_memory -/

/-- 20_memory R53: a 32-bit value stored at `p` lies most significant byte first, and `MemRead`
undoes `MemWrite`. -/
def Obligations.MultiByteFieldsAreBigEndian : Prop :=
  ∀ (s : State) (p : Nat) (v : Word),
    (s.memWrite p 4 v).bufByte p = v.extractLsb' 24 8 ∧
    (s.memWrite p 4 v).bufByte (p + 1) = v.extractLsb' 16 8 ∧
    (s.memWrite p 4 v).bufByte (p + 2) = v.extractLsb' 8 8 ∧
    (s.memWrite p 4 v).bufByte (p + 3) = v.extractLsb' 0 8 ∧
    (s.memWrite p 4 v).memRead p 4 = v

/-- 20_memory R59: the chunk map of R57 gives exactly the placeholder regions, 2384 bytes, and 60
template constants; the model's choice of parameter values (log 4). -/
def Obligations.LayoutHasSixtyTemplateConstants : Prop :=
  ((List.range 2444).filter isTemplateConstant).length = 60 ∧
  ((List.range 2444).filter isPlaceholder).length = 2384 ∧
  defaultChunks.ihdr.len + defaultChunks.plte.len + defaultChunks.trns.len +
    defaultChunks.idat.len + defaultChunks.iend.len = 2444 ∧
  (defaultParams.streamOff : Nat) = 72 ∧ (defaultParams.adlerOff : Nat) = 2424

/-- Both byte memories keep their canonical form in every step (20_memory R50, R51: no cell outside
the address range; the canonical form itself is the model's, log 3). -/
def Obligations.MemoriesStayCanonical : Prop :=
  ∀ s t, s.memoriesCanonical → step s = .next t → t.memoriesCanonical

/-! ### 30_encoding -/

/-- Words written out from 30_encoding R73 and 95_test_vectors §6, decoded. -/
def Obligations.WrittenOutWordsDecode : Prop :=
  decode 0x01000000 = .command .adler32 ∧ decode 0x02000000 = .command .crcinit ∧
  decode 0x03039947 = .command (.crc32 57 2375) ∧ decode 0x04000000 = .command .b64enc ∧
  decode 0x0398800C = .command (.crc32 2440 12) ∧
  decode 0x03FFFFFF = .command (.crc32 4095 4095) ∧
  decode 0x00000000 = .illegal .opcode ∧ decode 0x05000000 = .illegal .opcode ∧
  decode 0x02001000 = .illegal .operand ∧ decode 0x04FFFFFF = .illegal .operand

/-- 30_encoding R80, whole: the two worked encodings, `CRC32 0, 0`, and the illegal words. -/
def Obligations.WorkedEncodings : Prop :=
  encode (.crc32 57 2375) = 0x03039947 ∧ encode (.crc32 2432 12) = 0x0398000C ∧
  decode 0x03000000 = .command (.crc32 0 0) ∧
  (∀ s : State, s.tabv = true →
    ∃ t, exec (.crc32 0 0) s = .next t ∧ t.faulted = true ∧ t.fcause = 3 ∧ t.finfo = 0x03000000) ∧
  decode 0x01000001 = .illegal .operand ∧
  decode 0x00000000 = .illegal .opcode ∧ decode 0xFFFFFFFF = .illegal .opcode

/-- 30_encoding R78: every pseudo-instruction expands to the words shown. -/
def Obligations.PseudoInstructionsExpandAsListed : Prop :=
  assembleSource defaultChunks ⟨.crcIhdr, []⟩ = some [0x03000019] ∧
  assembleSource defaultChunks ⟨.crcPlte, []⟩ = some [0x03019012] ∧
  assembleSource defaultChunks ⟨.crcTrns, []⟩ = some [0x0302B00E] ∧
  assembleSource defaultChunks ⟨.crcIdat, []⟩ = some [0x03039947] ∧
  assembleSource defaultChunks ⟨.crcIend, []⟩ = some [0x0398000C] ∧
  assembleSource defaultChunks ⟨.crcAll, []⟩ =
    some [0x03000019, 0x03019012, 0x0302B00E, 0x03039947, 0x0398000C] ∧
  assembleSource defaultChunks ⟨.finish, []⟩ =
    some [0x01000000, 0x03000019, 0x03019012, 0x0302B00E, 0x03039947, 0x0398000C, 0x04000000]

/-- 30_encoding R81: encode-then-decode is the identity on commands and decode-then-encode on legal
words. -/
def Obligations.EncodeAndDecodeAreInverse : Prop :=
  (∀ i : Instr, decode (encode i) = .command i) ∧
  (∀ w i, decode w = .command i → encode i = w)

/-- 30_encoding R73: a word selects the row for which `w & mask = match`. -/
def Obligations.DecoderSelectsTheMatchingRow : Prop :=
  ∀ w : Word,
    (decode w = .command .adler32 ↔ w &&& 0xFFFFFFFF = 0x01000000) ∧
    (decode w = .command .crcinit ↔ w &&& 0xFFFFFFFF = 0x02000000) ∧
    ((∃ off len, decode w = .command (.crc32 off len)) ↔ w &&& 0xFF000000 = 0x03000000) ∧
    (decode w = .command .b64enc ↔ w &&& 0xFFFFFFFF = 0x04000000)

/-- 30_encoding R74: which words are illegal, in terms of the word as a number; issuing one raises
IllegalCommand and changes nothing else (`host` and `reply` apart: log 1; the working
registers too are as before, R155's "nothing else", log 12). -/
def Obligations.IllegalWordsRaiseIllegalCommand : Prop :=
  (∀ w : Word, (∃ why, decode w = .illegal why) ↔
    w.toNat / 2 ^ 24 = 0 ∨ 5 ≤ w.toNat / 2 ^ 24 ∨
    (w.toNat / 2 ^ 24 ≠ 3 ∧ w.toNat % 2 ^ 24 ≠ 0)) ∧
  (∀ s w rest why, s.host = .issue w :: rest → s.faulted = false → decode w = .illegal why →
    step s = .next { s with
      host := rest, reply := .returned, faulted := true, fcause := 1, finfo := w })

/-- 30_encoding R72: the operands are the word's bits 23:12 and 11:0, used as they are, whatever
their value. -/
def Obligations.OperandsAreTheWordsBits : Prop :=
  ∀ w : Word, w.toNat / 2 ^ 24 = 3 → ∃ off len, decode w = .command (.crc32 off len) ∧
    off.toNat = w.toNat / 2 ^ 12 % 2 ^ 12 ∧ len.toNat = w.toNat % 2 ^ 12

/-- 30_encoding R77: a CRC32 line assembles to `0x03000000 | (off << 12) | len` when both operands fit
in 12 bits, bounds unchecked, and is rejected otherwise. -/
def Obligations.AssemblerRejectsOperandsThatDoNotFit : Prop :=
  ∀ (m : ChunkMap) (off len : Nat),
    assembleSource m ⟨.crc32, [off, len]⟩ =
      if off < 4096 ∧ len < 4096 then
        some [BitVec.ofNat 32 (0x03000000 + off * 4096 + len)]
      else none

/-! ### 40_adler32 -/

/-- 40_adler32 R92 and R93: what accumulating one byte does to the three registers, and that the batch
reduction happens after exactly the 5552nd, 11104th, … byte. -/
def Obligations.AdlerBatchReductionEvery5552 : Prop :=
  (∀ (r : AdlerRegs) (d : Byte), r.n ≠ 1 →
    adlerAccumulate r d =
      ⟨r.s1 + d.setWidth 32, r.s2 + (r.s1 + d.setWidth 32), r.n - 1⟩) ∧
  (∀ (r : AdlerRegs) (d : Byte), r.n = 1 →
    adlerAccumulate r d =
      ⟨(r.s1 + d.setWidth 32) % 65521, (r.s2 + (r.s1 + d.setWidth 32)) % 65521, 5552⟩ ∧
    (adlerAccumulate r d).s1.toNat ≤ 65520 ∧ (adlerAccumulate r d).s2.toNat ≤ 65520) ∧
  (∀ ds : List Byte,
    (ds.foldl adlerAccumulate adlerStart).n.toNat = 5552 - ds.length % 5552)

/-- 40_adler32 R94: the bounds on both sums through a whole batch, that the 32-bit registers hold the
exact natural-number sums, and that 5552 is the largest safe batch. -/
def Obligations.AdlerSumsNeverOverflowInABatch : Prop :=
  (adlerStart.s1.toNat ≤ 65520 ∧ adlerStart.s2.toNat ≤ 65520) ∧
  (∀ r, (adlerBatch r).s1.toNat ≤ 65520 ∧ (adlerBatch r).s2.toNat ≤ 65520) ∧
  (∀ (r : AdlerRegs) (ds : List Byte), r.s1.toNat ≤ 65520 → r.s2.toNat ≤ 65520 →
    ds.length ≤ 5552 →
    let exact := ds.foldl (fun p d => (p.1 + d.toNat, p.2 + (p.1 + d.toNat)))
      (r.s1.toNat, r.s2.toNat)
    let q := ds.foldl adlerAdd r
    q.s1.toNat = exact.1 ∧ q.s2.toNat = exact.2 ∧
    q.s1.toNat ≤ 65520 + 255 * ds.length ∧
    q.s2.toNat ≤ 65520 + 65520 * ds.length + 255 * ds.length * (ds.length + 1) / 2) ∧
  65520 + 255 * 5552 = 1481280 ∧
  65520 + 65520 * 5552 + 255 * 5552 * (5552 + 1) / 2 = 4294690200 ∧ 4294690200 < 2 ^ 32 ∧
  2 ^ 32 - 1 < 65520 + 65520 * 5553 + 255 * 5553 * (5553 + 1) / 2

/-- 40_adler32 R95: the batched unit computes the Adler-32 of R90 for every byte sequence. -/
def Obligations.AdlerUnitComputesAdler32 : Prop :=
  ∀ ds : List Byte, adlerWord (adlerRun ds) = adler32 ds

/-- 40_adler32 R96: the end of a computation. -/
def Obligations.AdlerFinalReductionAndPacking : Prop :=
  (∀ r : AdlerRegs, adlerWord (adlerReduce r) =
    (r.s2 % 65521).extractLsb' 0 16 ++ (r.s1 % 65521).extractLsb' 0 16) ∧
  (∀ r : AdlerRegs, adlerReduce (adlerBatch r) = adlerBatch r) ∧
  adlerWord (adlerRun []) = 0x00000001

/-- 40_adler32 R97: from every state ADLER32 completes; the field holds, big-endian, the Adler-32 of
the stream; `S1` and `S2` hold the reduced sums; `N` has gone down to 3200 (R98). The region and the
field are where the parameters put them, at reset 72 and 2424. -/
def Obligations.Adler32PatchesTheChecksum : Prop :=
  (State.reset.streamOff = 72 ∧ State.reset.adlerOff = 2424) ∧
  ∀ s : State, ∃ t, exec .adler32 s = .next t ∧
    t.memRead s.adlerOff 4 = adler32 (s.bufBytes s.streamOff 2352) ∧
    t.s1.toNat = (adlerSums (s.bufBytes s.streamOff 2352)).1 ∧
    t.s2.toNat = (adlerSums (s.bufBytes s.streamOff 2352)).2 ∧
    t.bufByte s.adlerOff = t.s2.extractLsb' 8 8 ∧
    t.bufByte (s.adlerOff + 1) = t.s2.extractLsb' 0 8 ∧
    t.bufByte (s.adlerOff + 2) = t.s1.extractLsb' 8 8 ∧
    t.bufByte (s.adlerOff + 3) = t.s1.extractLsb' 0 8 ∧
    t.n = 3200 ∧ t.pc = s.pc + 1

/-- 40_adler32 R97, "State written": everything ADLER32 leaves unchanged. -/
def Obligations.Adler32Frame : Prop :=
  ∀ s t, exec .adler32 s = .next t →
    (∀ x, x < s.adlerOff ∨ s.adlerOff + 4 ≤ x → t.bufByte x = s.bufByte x) ∧
    (∀ j, t.outByte j = s.outByte j) ∧ t.outlen = s.outlen ∧ t.tab = s.tab ∧
    t.crc = s.crc ∧ t.g = s.g ∧ t.cnt = s.cnt ∧ t.optr = s.optr ∧
    t.tabv = s.tabv ∧ t.faulted = s.faulted ∧ t.outv = s.outv ∧
    t.fcause = s.fcause ∧ t.finfo = s.finfo ∧
    t.params = s.params ∧ t.host = s.host ∧ t.reply = s.reply ∧ t.draws = s.draws

/-- 40_adler32 R97, corner cases: where the field does not overlap the stream (as at the default
layout) issuing ADLER32 twice gives the same buffer. -/
def Obligations.Adler32IsIdempotent : Prop :=
  ∀ s t u, (s.streamOff + 2352 ≤ s.adlerOff ∨
      s.adlerOff + 4 ≤ s.streamOff) →
    exec .adler32 s = .next t → exec .adler32 t = .next u →
    (∀ x, u.bufByte x = t.bufByte x) ∧ u.s1 = t.s1 ∧ u.s2 = t.s2 ∧ u.n = t.n

/-- 40_adler32 R97, corner cases: the field for the all-zero and the all-`FF` stream. -/
def Obligations.Adler32OfConstantStreams : Prop :=
  ∀ s : State,
    ((∀ k, k < 2352 → s.bufByte (s.streamOff + k) = 0) →
      ∃ t, exec .adler32 s = .next t ∧ t.memRead s.adlerOff 4 = 0x09300001) ∧
    ((∀ k, k < 2352 → s.bufByte (s.streamOff + k) = 0xFF) →
      ∃ t, exec .adler32 s = .next t ∧ t.memRead s.adlerOff 4 = 0x5F172758)

/-! ### 41_crc32 -/

/-- 41_crc32 R112: after CRCINIT the table is the one printed, and it is linear over exclusive-or. -/
def Obligations.CrcTableIsThePrintedOne : Prop :=
  (∀ s, ∃ t, exec .crcinit s = .next t ∧ t.tab.toList = printedTable) ∧
  (∀ i j : BitVec 8,
    crcTable[(i ^^^ j).toNat]'(i ^^^ j).isLt = crcTable[i.toNat]'i.isLt ^^^ crcTable[j.toNat]'j.isLt)

/-- 41_crc32 R113: CRCINIT completes from every state with every entry of the table by R111 and
`TABV` set, and leaves the rest as it was. The final value of `CRC` is unspecified and not stated. -/
def Obligations.CrcinitBuildsTheTable : Prop :=
  ∀ s : State, ∃ t, exec .crcinit s = .next t ∧
    (∀ (i : Nat) (h : i < 256), t.tab[i] = step8 (BitVec.ofNat 32 i)) ∧
    t.tabv = true ∧ t.pc = s.pc + 1 ∧
    (∀ x, t.bufByte x = s.bufByte x) ∧ (∀ j, t.outByte j = s.outByte j) ∧ t.outlen = s.outlen ∧
    t.s1 = s.s1 ∧ t.s2 = s.s2 ∧ t.n = s.n ∧ t.g = s.g ∧ t.cnt = s.cnt ∧ t.ptr = s.ptr ∧
    t.optr = s.optr ∧ t.faulted = s.faulted ∧ t.outv = s.outv ∧
    t.fcause = s.fcause ∧ t.finfo = s.finfo ∧
    t.params = s.params ∧ t.host = s.host ∧ t.reply = s.reply

/-- 41_crc32 R120: two executions of CRCINIT, in the same context or in different contexts, leave
`TAB` identical entry for entry. -/
def Obligations.CrcinitIsIdempotent : Prop :=
  (∀ s s' : State, ∃ t t', exec .crcinit s = .next t ∧ exec .crcinit s' = .next t' ∧
    t.tab = t'.tab) ∧
  (∀ s t u, exec .crcinit s = .next t → exec .crcinit t = .next u → u.tab = t.tab)

/-- While `TABV = 1` the table is that of R111: every step keeps it (10_state R25). -/
def Obligations.TableStaysBuilt : Prop :=
  ∀ s t, s.tableBuilt → step s = .next t → t.tableBuilt

/-- 41_crc32 R116: the table-driven update of R114 equals the bitwise one, for every register value and
byte, and so for every byte sequence. -/
def Obligations.TableDrivenCrcIsBitwiseCrc : Prop :=
  (∀ (c : Word) (d : Byte), crcUpdate crcTable c d = step8 (c ^^^ d.setWidth 32)) ∧
  (∀ ds : List Byte, crc32 ds = ~~~ (ds.foldl crcUpdateBitwise 0xFFFFFFFF))

/-- 41_crc32 R117: with the table built and the range in bounds CRC32 completes, and the trailer holds,
big-endian, the CRC-32 of the chunk's type and data. -/
def Obligations.Crc32PatchesTheChecksum : Prop :=
  ∀ (s : State) (off len : BitVec 12), s.tabv = true → s.tab = crcTable →
    12 ≤ len.toNat → off.toNat + len.toNat ≤ 2444 →
    ∃ t, exec (.crc32 off len) s = .next t ∧
      t.memRead (off.toNat + len.toNat - 4) 4 =
        crc32 (s.bufBytes (off.toNat + 4) (len.toNat - 8)) ∧
      t.bufByte (off.toNat + len.toNat - 4) =
        (crc32 (s.bufBytes (off.toNat + 4) (len.toNat - 8))).extractLsb' 24 8 ∧
      t.crc = ~~~ (crc32 (s.bufBytes (off.toNat + 4) (len.toNat - 8))) ∧
      t.pc = s.pc + 1

/-- 41_crc32 R117, "State written": what CRC32 leaves unchanged, both where it patches the trailer and
where it faults (there the working registers by R155's "nothing else", log 12). -/
def Obligations.Crc32Frame : Prop :=
  ∀ s t off len, exec (.crc32 off len) s = .next t →
    (s.tabv = true ∧ chunkInBounds off len = true →
      (∀ x, x < trailerAddr off len ∨ trailerAddr off len + 4 ≤ x → t.bufByte x = s.bufByte x) ∧
      t.faulted = s.faulted ∧ t.fcause = s.fcause ∧ t.finfo = s.finfo) ∧
    (¬ (s.tabv = true ∧ chunkInBounds off len = true) →
      (∀ x, t.bufByte x = s.bufByte x) ∧ t.pc = s.pc) ∧
    (∀ j, t.outByte j = s.outByte j) ∧ t.outlen = s.outlen ∧ t.tab = s.tab ∧
    t.s1 = s.s1 ∧ t.s2 = s.s2 ∧ t.n = s.n ∧ t.g = s.g ∧ t.cnt = s.cnt ∧ t.optr = s.optr ∧
    t.tabv = s.tabv ∧ t.outv = s.outv ∧
    t.params = s.params ∧ t.host = s.host ∧ t.reply = s.reply ∧ t.draws = s.draws

/-- 41_crc32 R117, preconditions: when CRC32 faults, with which cause, and in which order.
That the working registers keep their values is R155's "nothing else" (log 12). -/
def Obligations.Crc32FaultsBeforeWriting : Prop :=
  ∀ (s : State) (off len : BitVec 12),
    (s.tabv = false →
      exec (.crc32 off len) s = .next { s with
        faulted := true, fcause := 2
        finfo := BitVec.ofNat 32 (0x03000000 + off.toNat * 4096 + len.toNat) }) ∧
    (s.tabv = true → (len.toNat < 12 ∨ 2444 < off.toNat + len.toNat) →
      exec (.crc32 off len) s = .next { s with
        faulted := true, fcause := 3
        finfo := BitVec.ofNat 32 (0x03000000 + off.toNat * 4096 + len.toNat) })

/-- 41_crc32 R117, corner cases: the destination never overlaps the covered bytes, so that CRC32 does
not depend on the old trailer and issuing it twice gives the same buffer. -/
def Obligations.Crc32IsIdempotent : Prop :=
  ∀ s t u off len, s.tabv = true → chunkInBounds off len = true →
    exec (.crc32 off len) s = .next t → exec (.crc32 off len) t = .next u →
    (∀ x, u.bufByte x = t.bufByte x) ∧ u.crc = t.crc

/-- 41_crc32 R119: the five commands of R118 commute: any order of them yields the same buffer, and in
it every one of the five trailers verifies (R121). -/
def Obligations.FiveChunkCrcsCommute : Prop :=
  ∀ (s : State) (order : List Instr), s.tabv = true → s.tab = crcTable →
    order.Perm (crcAll defaultChunks) →
    ∃ t t', execAll order s = .next t ∧ execAll (crcAll defaultChunks) s = .next t' ∧
      (∀ x, t.bufByte x = t'.bufByte x) ∧
      ∀ c, c ∈ [defaultChunks.ihdr, defaultChunks.plte, defaultChunks.trns, defaultChunks.idat,
          defaultChunks.iend] →
        t.memRead (c.off + c.len - 4) 4 = crc32 (t.bufBytes (c.off + 4) (c.len - 8))

/-! ### 42_base64 -/

/-- 42_base64 R130: the alphabet in one line is the alphabet by formula; the pad is not in it. -/
def Obligations.AlphabetIsTheFormula : Prop :=
  (∀ x : BitVec 6, alpha x = asciiCode (alphabetChar x) ∧ alphabetChar x ∈ alphabet) ∧
  alphabet.length = 64 ∧ alphabet.Nodup ∧ asciiCode '=' = padCode ∧ '=' ∉ alphabet

/-- 42_base64 R141: the register-level procedure, on any byte sequence, writes exactly `b64` of it. -/
def Obligations.Base64UnitComputesB64 : Prop :=
  ∀ ds : List Byte, (b64Run ds).2 = (b64 ds).map asciiCode

/-- 42_base64 R136: the length law, the number of pads, and that pads occur only at the end; 2452 bytes
give 3272 characters, the last two `==`. -/
def Obligations.Base64LengthLaw : Prop :=
  (∀ ds : List Byte, (b64 ds).length = 4 * ((ds.length + 2) / 3) ∧
    ∃ body, b64 ds = body ++ List.replicate ((3 - ds.length % 3) % 3) '=' ∧
      ∀ c ∈ body, c ∈ alphabet) ∧
  (∀ ds : List Byte, ds.length = 2452 → (b64 ds).length = 3272 ∧
    ∃ body, b64 ds = body ++ ['=', '='] ∧ ∀ c ∈ body, c ∈ alphabet)

/-- 42_base64 R138: the source stream is the 8 signature bytes followed by the 2444 bytes of the buffer,
as one sequence. -/
def Obligations.SourceStreamIsSignatureThenBuffer : Prop :=
  ∀ s : State, s.srcStream.length = 2452 ∧
    (∀ i, i < 8 → s.srcStream[i]? = [0x89, 0x50, 0x4E, 0x47, 0x0D, 0x0A, 0x1A, 0x0A][i]?) ∧
    (∀ i, 8 ≤ i → i < 2452 → s.srcStream[i]? = some (s.bufByte (i - 8)))

/-- 42_base64 R139: B64ENC completes from every state; `OUT` holds the base64 text of the signature
followed by the buffer, and `OUTLEN`, `OUTV` say so. -/
def Obligations.B64encWritesTheText : Prop :=
  ∀ s : State, ∃ t, exec .b64enc s = .next t ∧
    t.outBytes 3272 = (b64 (sig ++ s.bufBytes 0 2444)).map asciiCode ∧
    t.outlen = 3272 ∧ t.outv = true ∧ t.pc = s.pc + 1

/-- 42_base64 R139, "State written": everything B64ENC leaves unchanged. -/
def Obligations.B64encFrame : Prop :=
  ∀ s t, exec .b64enc s = .next t →
    (∀ x, t.bufByte x = s.bufByte x) ∧ t.tab = s.tab ∧
    t.s1 = s.s1 ∧ t.s2 = s.s2 ∧ t.n = s.n ∧ t.crc = s.crc ∧
    t.tabv = s.tabv ∧ t.faulted = s.faulted ∧ t.fcause = s.fcause ∧ t.finfo = s.finfo ∧
    t.params = s.params ∧ t.host = s.host ∧ t.reply = s.reply ∧ t.draws = s.draws

/-- 42_base64 R142 and R137: while `OUTV = 1`, `OUT` begins with the text the signature alone decides,
ends with two pads and holds only alphabet characters before them: every step keeps this. -/
def Obligations.OutputTextStaysWellFormed : Prop :=
  ∀ s t, s.outputText → step s = .next t → t.outputText

/-- 42_base64 R142 (a): the first ten characters and the eleventh. -/
def Obligations.SignatureDecidesTheFirstCharacters : Prop :=
  ∀ s : State, ∃ t, exec .b64enc s = .next t ∧
    t.outBytes 10 = (['i', 'V', 'B', 'O', 'R', 'w', '0', 'K', 'G', 'g']).map asciiCode ∧
    t.outByte 10 = alpha (0b1010#4 ++ (s.bufByte 0).extractLsb' 6 2)

/-! ### 60_exceptions -/

/-- 60_exceptions R153: the checks on `Issue(w)`, in their order; the first that fails decides. That
a step takes the action off `host` and sets `reply` is the model's (log 1); that the working registers
keep their values is R155's "nothing else" (log 12). -/
def Obligations.IssueChecksInFixedOrder : Prop :=
  ∀ (s : State) (w : Word) (rest : List HostAction), s.host = .issue w :: rest →
    let u := { s with host := rest, reply := .returned }
    (s.faulted = true → step s = .next u) ∧
    (s.faulted = false → ∀ why, decode w = .illegal why →
      step s = .next { u with faulted := true, fcause := 1, finfo := w }) ∧
    (s.faulted = false → ∀ off len, decode w = .command (.crc32 off len) → s.tabv = false →
      step s = .next { u with faulted := true, fcause := 2, finfo := w }) ∧
    (s.faulted = false → ∀ off len, decode w = .command (.crc32 off len) → s.tabv = true →
      (len.toNat < 12 ∨ 2444 < off.toNat + len.toNat) →
      step s = .next { u with faulted := true, fcause := 3, finfo := w })

/-- 60_exceptions R155 and R156: a command that faults sets `FAULTED`, records the cause and its word,
and leaves everything R155 lists exactly as it was. -/
def Obligations.FaultsArePrecise : Prop :=
  ∀ s t, step s = .next t → s.faulted = false → t.faulted = true →
    ∃ w, s.issuesNext w ∧ t.finfo = w ∧ (t.fcause = 1 ∨ t.fcause = 2 ∨ t.fcause = 3) ∧
      t.buf = s.buf ∧ t.out = s.out ∧ t.outlen = s.outlen ∧ t.tab = s.tab ∧ t.tabv = s.tabv ∧
      t.outv = s.outv ∧ t.pc = s.pc

/-- 60_exceptions R157: while `FAULTED = 1` an Issue does nothing at all; only Reset clears the fault;
the other host actions keep working. `host` and `reply` are the model's (log 1). -/
def Obligations.FaultsAreSticky : Prop :=
  (∀ s w rest, s.faulted = true → s.host = .issue w :: rest →
    step s = .next { s with host := rest, reply := .returned }) ∧
  (∀ s t, s.faulted = true → ¬ s.resetsNext → step s = .next t →
    t.faulted = true ∧ t.fcause = s.fcause ∧ t.finfo = s.finfo ∧ t.pc = s.pc) ∧
  (∀ s rest, s.faulted = true →
    (∀ a, a < 2444 → s.host = .readBuf a :: rest →
      step s = .next { s with host := rest, reply := .byte (s.bufByte a) }) ∧
    (∀ a v, a < 2444 → s.host = .writeBuf a v :: rest →
      ∃ t, step s = .next t ∧ t.bufByte a = v) ∧
    (∀ i, i < 3272 → i < s.outlen.toNat → s.host = .readOut i :: rest →
      step s = .next { s with host := rest, reply := .byte (s.outByte i) }) ∧
    (s.host = .readStatus :: rest →
      step s = .next { s with
        host := rest, reply := .status s.statusWord s.fcause s.finfo s.outlen }))

/-- 60_exceptions R163: no step ends in a fault outcome (fault entry is a next state, log 13), and a
step is refused exactly when the host accesses an address outside a memory (10_state R35, log 14);
every other step answers a next state. -/
def Obligations.OnlyAccessesOutsideAMemoryAreRefused : Prop :=
  ∀ s : State, (∃ t, step s = .next t ∧ ∀ r, ¬ s.accessOutside r) ∨
    ∃ r, step s = .refused r ∧ s.accessOutside r

/-! ### 70_reset_and_hazards -/

/-- 70_reset R170: Reset gives every piece of state its reset value, from any state, faulted or not,
and is the only way out of a fault. That the rest of `host` stays pending is the model's (logs 1, 8). -/
def Obligations.ResetCreatesAFreshContext : Prop :=
  (∀ s rest, s.host = .reset :: rest → ∃ t, step s = .next t ∧
    (∀ (a : Nat) (h : a < 2444), t.bufByte a = s.params.template[a]) ∧
    t.outlen = 0 ∧ t.tabv = false ∧ t.faulted = false ∧ t.outv = false ∧
    t.fcause = 0 ∧ t.finfo = 0 ∧ t.pc = 0 ∧ t.host = rest) ∧
  (∀ s t, step s = .next t → s.faulted = true → t.faulted = false → s.resetsNext)

/-- 70_reset R176, `WriteBuf`: one byte written and nothing else; refused outside `BUF`.
`host` and `reply` are the model's (log 1). -/
def Obligations.WriteBufWritesOneByte : Prop :=
  ∀ s a v rest, s.host = .writeBuf a v :: rest →
    (a < 2444 → ∃ t, step s = .next t ∧
      (∀ x, t.bufByte x = if x = a then v else s.bufByte x) ∧
      t = { s with buf := t.buf, host := rest, reply := .nothing }) ∧
    (2444 ≤ a → step s = .refused (.bufAddress a))

/-- 70_reset R176 and 10_state R35, the three reads: what each hands back; nothing else changes (but
the model's count of free values, log 9, and `host` and `reply`, log 1); refused outside a memory. -/
def Obligations.HostReadsHandBackAndChangeNothing : Prop :=
  (∀ s a rest, s.host = .readBuf a :: rest →
    (a < 2444 → step s = .next { s with host := rest, reply := .byte (s.bufByte a) }) ∧
    (2444 ≤ a → step s = .refused (.bufAddress a))) ∧
  (∀ s i rest, s.host = .readOut i :: rest →
    (i < 3272 → i < s.outlen.toNat →
      step s = .next { s with host := rest, reply := .byte (s.outByte i) }) ∧
    (i < 3272 → s.outlen.toNat ≤ i →
      ∃ v d, step s = .next { s with host := rest, reply := .byte v, draws := d }) ∧
    (3272 ≤ i → step s = .refused (.outIndex i))) ∧
  (∀ s rest, s.host = .readStatus :: rest →
    step s = .next { s with
      host := rest, reply := .status s.statusWord s.fcause s.finfo s.outlen })

/-- A step runs the decoded command: with `Issue(w)` next, no fault standing and `w` a command, the step
is that command on the state with the action taken off and the return noted (log 1). -/
def Obligations.StepRunsTheDecodedCommand : Prop :=
  ∀ (s : State) (w : Word) (rest : List HostAction) (i : Instr),
    s.host = .issue w :: rest → s.faulted = false → decode w = .command i →
    step s = exec i { s with host := rest, reply := .returned }

/-- With nothing pending the block waits for the host (70_reset R172; the model's choice, log 2). -/
def Obligations.NothingHappensWithoutTheHost : Prop :=
  ∀ s : State, s.host = [] → step s = .next s

/-- 70_reset R174: a run in which a command faulted never ends. As long as the host does not reset,
whatever number of steps is taken, the machine stays faulted and `pc` stays where it was. -/
def Obligations.FaultedRunNeverEnds : Prop :=
  ∀ (k : Nat) (s t : State) (program : List Word), s.faulted = true → s.pc < program.length →
    HostAction.reset ∉ s.host → Host.Core.run Sys2Proof.core k s = .next t →
    t.goneWrong ∧ t.pc = s.pc ∧ ¬ t.runEnded program ∧ t.nextWord program = none

/-- 70_reset R178: ADLER32 before the CRC32 of IDAT leaves both fields verifying; the other order leaves
the trailer computed over the old field. At the default layout. -/
def Obligations.AdlerBeforeIdatCrcVerifies : Prop :=
  ∀ s : State, DefaultLayout s.params → s.tabv = true → s.tab = crcTable →
    (∃ t, execAll [.adler32, .crc32 57 2375] s = .next t ∧
      t.memRead 2424 4 = adler32 (t.bufBytes 72 2352) ∧
      t.memRead 2428 4 = crc32 (t.bufBytes 61 2367)) ∧
    (∃ t, execAll [.crc32 57 2375, .adler32] s = .next t ∧
      t.memRead 2424 4 = adler32 (t.bufBytes 72 2352) ∧
      t.memRead 2428 4 = crc32 (s.bufBytes 61 2367))

/-- Every invariant the statements above keep holds at reset. -/
def Obligations.InvariantsHoldAtReset : Prop :=
  State.reset.memoriesCanonical ∧ State.reset.tableBuilt ∧ State.reset.outputLength ∧
  State.reset.faultRecord ∧ State.reset.outputText

/-- 70_reset R177: where the host's colour and row writes go with the default layout; the bytes R177
leaves open are arguments (log 22). -/
def Obligations.HostScriptsWriteTheirRegions : Prop :=
  ∀ (k : Fin 2) (r g b a : Byte),
    setPaletteColor defaultChunks k r g b a =
      [.writeBuf (33 + 3 * k) r, .writeBuf (34 + 3 * k) g, .writeBuf (35 + 3 * k) b,
       .writeBuf (51 + k) a] ∧
    ∀ (y : Nat) (px : Vector Byte 48), embedRow 72 y px =
      .writeBuf (72 + 49 * y) 0 ::
        (List.range 48).map fun x => .writeBuf (72 + 49 * y + 1 + x) (px.toList.getD x 0)
end

