-- ==== Sys2Proof/Laws/Decode.lean ====
section
/-! SUPPORT. The fields of a packed word, the word its fields pack to, and the fields as numbers. -/

namespace Sys2Proof

theorem opField_packWord (op : BitVec 8) (a b : BitVec 12) : opField (packWord op a b) = op := by
  unfold opField packWord
  ext j hj
  simp only [BitVec.getElem_extractLsb', BitVec.getLsbD_append]
  interval_cases j <;> simp [BitVec.getLsbD_eq_getElem]

theorem aField_packWord (op : BitVec 8) (a b : BitVec 12) : aField (packWord op a b) = a := by
  unfold aField packWord
  ext j hj
  simp only [BitVec.getElem_extractLsb', BitVec.getLsbD_append]
  interval_cases j <;> simp [BitVec.getLsbD_eq_getElem]

theorem bField_packWord (op : BitVec 8) (a b : BitVec 12) : bField (packWord op a b) = b := by
  unfold bField packWord
  ext j hj
  simp only [BitVec.getElem_extractLsb', BitVec.getLsbD_append]
  interval_cases j <;> simp [BitVec.getLsbD_eq_getElem]

/-- A word is the packing of its own fields. -/
theorem packWord_fields (w : Word) : packWord (opField w) (aField w) (bField w) = w := by
  unfold opField aField bField packWord
  ext j hj
  simp only [BitVec.getElem_append, BitVec.getElem_extractLsb']
  have hw : w.getLsbD j = w[j] := BitVec.getLsbD_eq_getElem (show j < 32 from hj)
  split
  · simp [hw]
  · split
    · simp [show 12 + (j - 12) = j by omega, hw]
    · simp [show 24 + (j - 12 - 12) = j by omega, hw]

theorem opField_toNat (w : Word) : (opField w).toNat = w.toNat / 2 ^ 24 := by
  have := w.isLt
  simp only [opField, BitVec.extractLsb'_toNat, Nat.shiftRight_eq_div_pow]
  omega

theorem aField_toNat (w : Word) : (aField w).toNat = w.toNat / 2 ^ 12 % 2 ^ 12 := by
  simp only [aField, BitVec.extractLsb'_toNat, Nat.shiftRight_eq_div_pow]

theorem bField_toNat (w : Word) : (bField w).toNat = w.toNat % 2 ^ 12 := by
  simp [bField, BitVec.extractLsb'_toNat]

theorem packWord_toNat (op : BitVec 8) (a b : BitVec 12) :
    (packWord op a b).toNat = op.toNat * 2 ^ 24 + a.toNat * 2 ^ 12 + b.toNat := by
  have h1 := opField_toNat (packWord op a b)
  have h2 := aField_toNat (packWord op a b)
  have h3 := bField_toNat (packWord op a b)
  rw [opField_packWord] at h1
  rw [aField_packWord] at h2
  rw [bField_packWord] at h3
  omega

end Sys2Proof
end

