-- ==== Sys2Proof/Laws/Memory.lean ====
section
/-! SUPPORT. The laws of the byte memories: what an address reads as after a write, that a write
keeps the canonical form, and that equal readings make equal memories. -/

namespace Sys2Proof.Machine

theorem Memory.read_nil (dflt : Nat → Byte) (a : Nat) : Memory.read dflt [] a = dflt a := rfl

theorem Memory.lookup_filter_key (p : Nat → Bool) (m : Memory) (x : Nat) :
    (m.filter fun c => p c.1).lookup x = if p x then m.lookup x else none := by
  induction m with
  | nil => simp
  | cons c m ih =>
    obtain ⟨k, v⟩ := c
    by_cases hx : x = k
    · subst hx
      by_cases hk : p x
      · simp [hk]
      · rw [List.filter_cons_of_neg (by simpa using hk), ih]
        simp [hk]
    · have hne : (x == k) = false := by simp [hx]
      by_cases hk : p k <;> simp [List.lookup_cons, hk, hne, ih]

theorem Memory.lookup_cells_outside (dflt : Nat → Byte) (bs : List Byte) (a x : Nat)
    (h : x < a ∨ a + bs.length ≤ x) : (Memory.cells dflt a bs).lookup x = none := by
  induction bs generalizing a with
  | nil => rfl
  | cons b bs ih =>
    have hne : (x == a) = false := by simp at h ⊢; omega
    have := ih (a + 1) (by simp at h; omega)
    simp only [Memory.cells]
    split <;> simp [List.lookup_cons, hne, this]

theorem Memory.read_cells_inside (dflt : Nat → Byte) (bs : List Byte) (a k : Nat)
    (h : k < bs.length) :
    ((Memory.cells dflt a bs).lookup (a + k)).getD (dflt (a + k)) = bs[k] := by
  induction bs generalizing a k with
  | nil => simp at h
  | cons b bs ih =>
    simp only [Memory.cells]
    cases k with
    | zero =>
      have hnone := Memory.lookup_cells_outside dflt bs (a + 1) a (Or.inl (by omega))
      split
      · next hb => simp [hnone, hb]
      · simp
    | succ k =>
      have := ih (a + 1) k (by simpa using h)
      rw [show a + 1 + k = a + (k + 1) by omega] at this
      have hne : (a + (k + 1) == a) = false := by simp
      split <;> simp [List.lookup_cons, hne, this]

/-- What any address reads as after a write: the byte stored there, else what it read before. -/
theorem Memory.read_write (dflt : Nat → Byte) (m : Memory) (a : Nat) (bs : List Byte) (x : Nat) :
    Memory.read dflt (Memory.write dflt m a bs) x =
      if h : a ≤ x ∧ x < a + bs.length then bs[x - a]'(by omega) else Memory.read dflt m x := by
  have hlow := Memory.lookup_filter_key (fun k => decide (k < a)) m x
  have hhigh := Memory.lookup_filter_key (fun k => decide (a + bs.length ≤ k)) m x
  unfold Memory.read Memory.write
  rw [List.lookup_append, List.lookup_append, hlow, hhigh]
  by_cases h : a ≤ x ∧ x < a + bs.length
  · have hin := Memory.read_cells_inside dflt bs a (x - a) (by omega)
    rw [show a + (x - a) = x by omega] at hin
    have h1 : ¬ x < a := by omega
    have h2 : ¬ a + bs.length ≤ x := by omega
    simp [h, h1, h2, hin]
  · have hout := Memory.lookup_cells_outside dflt bs a x (by omega)
    rw [hout]
    by_cases h1 : x < a
    · have h2 : ¬ a + bs.length ≤ x := by omega
      have h3 : ¬ a ≤ x := by omega
      simp [h1, h2, h3]
    · have h2 : a + bs.length ≤ x := by omega
      have h3 : ¬ x < a + bs.length := by omega
      simp [h1, h2, h3]

theorem Memory.cells_bounds (dflt : Nat → Byte) (bs : List Byte) (a : Nat) :
    ∀ c ∈ Memory.cells dflt a bs, a ≤ c.1 ∧ c.1 < a + bs.length ∧ c.2 ≠ dflt c.1 := by
  induction bs generalizing a with
  | nil => simp [Memory.cells]
  | cons b bs ih =>
    intro c hc
    simp only [Memory.cells] at hc
    split at hc
    · obtain ⟨h1, h2, h3⟩ := ih (a + 1) c hc
      exact ⟨by omega, by simp; omega, h3⟩
    · next hb =>
      rcases List.mem_cons.1 hc with rfl | hc
      · exact ⟨Nat.le_refl _, by simp, hb⟩
      · obtain ⟨h1, h2, h3⟩ := ih (a + 1) c hc
        exact ⟨by omega, by simp; omega, h3⟩

theorem Memory.cells_rising (dflt : Nat → Byte) (bs : List Byte) (a : Nat) :
    (Memory.cells dflt a bs).Pairwise fun c d => c.1 < d.1 := by
  induction bs generalizing a with
  | nil => simp [Memory.cells]
  | cons b bs ih =>
    simp only [Memory.cells]
    split
    · exact ih (a + 1)
    · refine List.pairwise_cons.2 ⟨fun c hc => ?_, ih (a + 1)⟩
      have := (Memory.cells_bounds dflt bs (a + 1) c hc).1
      show a < c.1
      omega

/-- A write inside the memory keeps the canonical form. -/
theorem Memory.write_wf {dflt : Nat → Byte} {size : Nat} {m : Memory} (hm : Memory.wf dflt size m)
    (a : Nat) (bs : List Byte) (h : a + bs.length ≤ size) :
    Memory.wf dflt size (Memory.write dflt m a bs) := by
  obtain ⟨hrise, hcell⟩ := hm
  have hcells := Memory.cells_bounds dflt bs a
  refine ⟨?_, fun c hc => ?_⟩
  · refine List.pairwise_append.2 ⟨List.pairwise_append.2
      ⟨hrise.filter _, Memory.cells_rising dflt bs a, fun c hc d hd => ?_⟩,
      hrise.filter _, fun c hc d hd => ?_⟩
    · have h1 := (hcells d hd).1
      have h2 : c.1 < a := by simpa using (List.mem_filter.1 hc).2
      omega
    · have h2 : a + bs.length ≤ d.1 := by simpa using (List.mem_filter.1 hd).2
      rcases List.mem_append.1 hc with hc | hc
      · have h1 : c.1 < a := by simpa using (List.mem_filter.1 hc).2
        omega
      · have h1 := (hcells c hc).2.1
        omega
  · rcases List.mem_append.1 hc with hc | hc
    · rcases List.mem_append.1 hc with hc | hc
      · exact hcell c (List.mem_filter.1 hc).1
      · obtain ⟨_, h2, h3⟩ := hcells c hc
        exact ⟨by omega, h3⟩
    · exact hcell c (List.mem_filter.1 hc).1

theorem Memory.wf_nil (dflt : Nat → Byte) (size : Nat) : Memory.wf dflt size [] := by
  simp [Memory.wf]

theorem Memory.wf_tail {dflt : Nat → Byte} {size : Nat} {c : Host.Cell} {m : Memory}
    (h : Memory.wf dflt size (c :: m)) : Memory.wf dflt size m :=
  ⟨(List.pairwise_cons.1 h.1).2, fun d hd => h.2 d (List.mem_cons_of_mem _ hd)⟩

theorem Memory.lookup_below {m : Memory} {x : Nat} (h : ∀ c ∈ m, x < c.1) : m.lookup x = none := by
  induction m with
  | nil => rfl
  | cons c m ih =>
    have hc := h c (by simp)
    have hne : (x == c.1) = false := by simp; omega
    rw [List.lookup_cons, hne]
    exact ih fun d hd => h d (List.mem_cons_of_mem _ hd)

theorem Memory.read_head {dflt : Nat → Byte} {c : Host.Cell} {m : Memory} :
    Memory.read dflt (c :: m) c.1 = c.2 := by
  obtain ⟨a, b⟩ := c
  simp [Memory.read]

theorem Memory.read_above_head {dflt : Nat → Byte} {c : Host.Cell} {m : Memory} {x : Nat}
    (h : c.1 ≠ x) : Memory.read dflt (c :: m) x = Memory.read dflt m x := by
  obtain ⟨a, b⟩ := c
  have : (x == a) = false := by simp at h ⊢; omega
  simp [Memory.read, List.lookup_cons, this]

/-- In canonical form, memories that read alike everywhere are the same list. -/
theorem Memory.eq_of_read_eq {dflt : Nat → Byte} {size : Nat} {m k : Memory}
    (hm : Memory.wf dflt size m) (hk : Memory.wf dflt size k)
    (h : ∀ a, Memory.read dflt m a = Memory.read dflt k a) : m = k := by
  have below : ∀ {c : Host.Cell} {t : Memory}, Memory.wf dflt size (c :: t) → ∀ x, x ≤ c.1 →
      Memory.read dflt t x = dflt x := by
    intro c t hw x hx
    have := Memory.lookup_below (m := t) (x := x) fun d hd => by
      have := (List.pairwise_cons.1 hw.1).1 d hd
      omega
    simp [Memory.read, this]
  have single : ∀ {c : Host.Cell} {t : Memory}, Memory.wf dflt size (c :: t) →
      Memory.read dflt (c :: t) c.1 ≠ dflt c.1 := by
    intro c t hw
    rw [Memory.read_head]
    exact (hw.2 c (by simp)).2
  induction m generalizing k with
  | nil =>
    cases k with
    | nil => rfl
    | cons d k => exact absurd (h d.1).symm (single hk)
  | cons c m ih =>
    cases k with
    | nil => exact absurd (h c.1) (single hm)
    | cons d k =>
      have heq : c.1 = d.1 := by
        rcases Nat.lt_trichotomy c.1 d.1 with hlt | heq | hlt
        · have h1 := h c.1
          rw [Memory.read_above_head (c := d) (by omega), below hk c.1 (by omega)] at h1
          exact absurd h1 (single hm)
        · exact heq
        · have h1 := h d.1
          rw [Memory.read_above_head (c := c) (by omega), below hm d.1 (by omega)] at h1
          exact absurd h1.symm (single hk)
      have hval : c.2 = d.2 := by
        have h1 := h c.1
        rw [Memory.read_head, heq, Memory.read_head] at h1
        exact h1
      have htail : m = k := by
        refine ih (Memory.wf_tail hm) (Memory.wf_tail hk) fun x => ?_
        by_cases hx : c.1 = x
        · subst hx
          rw [below hm c.1 (by omega), below hk c.1 (by omega)]
        · have h1 := h x
          rwa [Memory.read_above_head hx, Memory.read_above_head (by omega)] at h1
      subst htail
      rw [Prod.ext heq hval]

end Sys2Proof.Machine
end

