-- ==== Sys2Proof/Laws/State.lean ====
section
/-! SUPPORT. The small lemmas of State: for every named update, what each field is after it. -/

namespace Sys2Proof.Machine

variable (s : State)

/-! ### bufWrite -/

@[simp] theorem State.bufWrite_buf (a : Nat) (bs : List Byte) :
    (s.bufWrite a bs).buf = Memory.write (templateByte s.params) s.buf a bs := rfl
@[simp] theorem State.bufWrite_out (a : Nat) (bs : List Byte) : (s.bufWrite a bs).out = s.out := rfl
@[simp] theorem State.bufWrite_outlen (a : Nat) (bs : List Byte) :
    (s.bufWrite a bs).outlen = s.outlen := rfl
@[simp] theorem State.bufWrite_tab (a : Nat) (bs : List Byte) : (s.bufWrite a bs).tab = s.tab := rfl
@[simp] theorem State.bufWrite_s1 (a : Nat) (bs : List Byte) : (s.bufWrite a bs).s1 = s.s1 := rfl
@[simp] theorem State.bufWrite_s2 (a : Nat) (bs : List Byte) : (s.bufWrite a bs).s2 = s.s2 := rfl
@[simp] theorem State.bufWrite_n (a : Nat) (bs : List Byte) : (s.bufWrite a bs).n = s.n := rfl
@[simp] theorem State.bufWrite_crc (a : Nat) (bs : List Byte) : (s.bufWrite a bs).crc = s.crc := rfl
@[simp] theorem State.bufWrite_g (a : Nat) (bs : List Byte) : (s.bufWrite a bs).g = s.g := rfl
@[simp] theorem State.bufWrite_cnt (a : Nat) (bs : List Byte) : (s.bufWrite a bs).cnt = s.cnt := rfl
@[simp] theorem State.bufWrite_ptr (a : Nat) (bs : List Byte) : (s.bufWrite a bs).ptr = s.ptr := rfl
@[simp] theorem State.bufWrite_optr (a : Nat) (bs : List Byte) :
    (s.bufWrite a bs).optr = s.optr := rfl
@[simp] theorem State.bufWrite_tabv (a : Nat) (bs : List Byte) :
    (s.bufWrite a bs).tabv = s.tabv := rfl
@[simp] theorem State.bufWrite_faulted (a : Nat) (bs : List Byte) :
    (s.bufWrite a bs).faulted = s.faulted := rfl
@[simp] theorem State.bufWrite_outv (a : Nat) (bs : List Byte) :
    (s.bufWrite a bs).outv = s.outv := rfl
@[simp] theorem State.bufWrite_fcause (a : Nat) (bs : List Byte) :
    (s.bufWrite a bs).fcause = s.fcause := rfl
@[simp] theorem State.bufWrite_finfo (a : Nat) (bs : List Byte) :
    (s.bufWrite a bs).finfo = s.finfo := rfl
@[simp] theorem State.bufWrite_pc (a : Nat) (bs : List Byte) : (s.bufWrite a bs).pc = s.pc := rfl
@[simp] theorem State.bufWrite_params (a : Nat) (bs : List Byte) :
    (s.bufWrite a bs).params = s.params := rfl
@[simp] theorem State.bufWrite_host (a : Nat) (bs : List Byte) :
    (s.bufWrite a bs).host = s.host := rfl
@[simp] theorem State.bufWrite_reply (a : Nat) (bs : List Byte) :
    (s.bufWrite a bs).reply = s.reply := rfl
@[simp] theorem State.bufWrite_draws (a : Nat) (bs : List Byte) :
    (s.bufWrite a bs).draws = s.draws := rfl
@[simp] theorem State.bufWrite_outByte (a : Nat) (bs : List Byte) (addr : Nat) :
    (s.bufWrite a bs).outByte addr = s.outByte addr := rfl
@[simp] theorem State.bufWrite_streamOff (a : Nat) (bs : List Byte) :
    (s.bufWrite a bs).streamOff = s.streamOff := rfl
@[simp] theorem State.bufWrite_adlerOff (a : Nat) (bs : List Byte) :
    (s.bufWrite a bs).adlerOff = s.adlerOff := rfl
@[simp] theorem State.bufWrite_outBytes (a : Nat) (bs : List Byte) (len : Nat) :
    (s.bufWrite a bs).outBytes len = s.outBytes len := rfl

/-! ### memWrite -/

@[simp] theorem State.memWrite_buf (a k : Nat) (v : BitVec (8 * k)) :
    (s.memWrite a k v).buf = Memory.write (templateByte s.params) s.buf a (bytesOf k v) := rfl
@[simp] theorem State.memWrite_out (a k : Nat) (v : BitVec (8 * k)) :
    (s.memWrite a k v).out = s.out := rfl
@[simp] theorem State.memWrite_outlen (a k : Nat) (v : BitVec (8 * k)) :
    (s.memWrite a k v).outlen = s.outlen := rfl
@[simp] theorem State.memWrite_tab (a k : Nat) (v : BitVec (8 * k)) :
    (s.memWrite a k v).tab = s.tab := rfl
@[simp] theorem State.memWrite_s1 (a k : Nat) (v : BitVec (8 * k)) :
    (s.memWrite a k v).s1 = s.s1 := rfl
@[simp] theorem State.memWrite_s2 (a k : Nat) (v : BitVec (8 * k)) :
    (s.memWrite a k v).s2 = s.s2 := rfl
@[simp] theorem State.memWrite_n (a k : Nat) (v : BitVec (8 * k)) :
    (s.memWrite a k v).n = s.n := rfl
@[simp] theorem State.memWrite_crc (a k : Nat) (v : BitVec (8 * k)) :
    (s.memWrite a k v).crc = s.crc := rfl
@[simp] theorem State.memWrite_g (a k : Nat) (v : BitVec (8 * k)) :
    (s.memWrite a k v).g = s.g := rfl
@[simp] theorem State.memWrite_cnt (a k : Nat) (v : BitVec (8 * k)) :
    (s.memWrite a k v).cnt = s.cnt := rfl
@[simp] theorem State.memWrite_ptr (a k : Nat) (v : BitVec (8 * k)) :
    (s.memWrite a k v).ptr = s.ptr := rfl
@[simp] theorem State.memWrite_optr (a k : Nat) (v : BitVec (8 * k)) :
    (s.memWrite a k v).optr = s.optr := rfl
@[simp] theorem State.memWrite_tabv (a k : Nat) (v : BitVec (8 * k)) :
    (s.memWrite a k v).tabv = s.tabv := rfl
@[simp] theorem State.memWrite_faulted (a k : Nat) (v : BitVec (8 * k)) :
    (s.memWrite a k v).faulted = s.faulted := rfl
@[simp] theorem State.memWrite_outv (a k : Nat) (v : BitVec (8 * k)) :
    (s.memWrite a k v).outv = s.outv := rfl
@[simp] theorem State.memWrite_fcause (a k : Nat) (v : BitVec (8 * k)) :
    (s.memWrite a k v).fcause = s.fcause := rfl
@[simp] theorem State.memWrite_finfo (a k : Nat) (v : BitVec (8 * k)) :
    (s.memWrite a k v).finfo = s.finfo := rfl
@[simp] theorem State.memWrite_pc (a k : Nat) (v : BitVec (8 * k)) :
    (s.memWrite a k v).pc = s.pc := rfl
@[simp] theorem State.memWrite_params (a k : Nat) (v : BitVec (8 * k)) :
    (s.memWrite a k v).params = s.params := rfl
@[simp] theorem State.memWrite_host (a k : Nat) (v : BitVec (8 * k)) :
    (s.memWrite a k v).host = s.host := rfl
@[simp] theorem State.memWrite_reply (a k : Nat) (v : BitVec (8 * k)) :
    (s.memWrite a k v).reply = s.reply := rfl
@[simp] theorem State.memWrite_draws (a k : Nat) (v : BitVec (8 * k)) :
    (s.memWrite a k v).draws = s.draws := rfl
@[simp] theorem State.memWrite_outByte (a k : Nat) (v : BitVec (8 * k)) (addr : Nat) :
    (s.memWrite a k v).outByte addr = s.outByte addr := rfl
@[simp] theorem State.memWrite_streamOff (a k : Nat) (v : BitVec (8 * k)) :
    (s.memWrite a k v).streamOff = s.streamOff := rfl
@[simp] theorem State.memWrite_adlerOff (a k : Nat) (v : BitVec (8 * k)) :
    (s.memWrite a k v).adlerOff = s.adlerOff := rfl
@[simp] theorem State.memWrite_outBytes (a k : Nat) (v : BitVec (8 * k)) (len : Nat) :
    (s.memWrite a k v).outBytes len = s.outBytes len := rfl

/-! ### outWrite -/

@[simp] theorem State.outWrite_buf (j : Nat) (bs : List Byte) : (s.outWrite j bs).buf = s.buf := rfl
@[simp] theorem State.outWrite_out (j : Nat) (bs : List Byte) :
    (s.outWrite j bs).out = Memory.write outDefault s.out j bs := rfl
@[simp] theorem State.outWrite_outlen (j : Nat) (bs : List Byte) :
    (s.outWrite j bs).outlen = s.outlen := rfl
@[simp] theorem State.outWrite_tab (j : Nat) (bs : List Byte) : (s.outWrite j bs).tab = s.tab := rfl
@[simp] theorem State.outWrite_s1 (j : Nat) (bs : List Byte) : (s.outWrite j bs).s1 = s.s1 := rfl
@[simp] theorem State.outWrite_s2 (j : Nat) (bs : List Byte) : (s.outWrite j bs).s2 = s.s2 := rfl
@[simp] theorem State.outWrite_n (j : Nat) (bs : List Byte) : (s.outWrite j bs).n = s.n := rfl
@[simp] theorem State.outWrite_crc (j : Nat) (bs : List Byte) : (s.outWrite j bs).crc = s.crc := rfl
@[simp] theorem State.outWrite_g (j : Nat) (bs : List Byte) : (s.outWrite j bs).g = s.g := rfl
@[simp] theorem State.outWrite_cnt (j : Nat) (bs : List Byte) : (s.outWrite j bs).cnt = s.cnt := rfl
@[simp] theorem State.outWrite_ptr (j : Nat) (bs : List Byte) : (s.outWrite j bs).ptr = s.ptr := rfl
@[simp] theorem State.outWrite_optr (j : Nat) (bs : List Byte) :
    (s.outWrite j bs).optr = s.optr := rfl
@[simp] theorem State.outWrite_tabv (j : Nat) (bs : List Byte) :
    (s.outWrite j bs).tabv = s.tabv := rfl
@[simp] theorem State.outWrite_faulted (j : Nat) (bs : List Byte) :
    (s.outWrite j bs).faulted = s.faulted := rfl
@[simp] theorem State.outWrite_outv (j : Nat) (bs : List Byte) :
    (s.outWrite j bs).outv = s.outv := rfl
@[simp] theorem State.outWrite_fcause (j : Nat) (bs : List Byte) :
    (s.outWrite j bs).fcause = s.fcause := rfl
@[simp] theorem State.outWrite_finfo (j : Nat) (bs : List Byte) :
    (s.outWrite j bs).finfo = s.finfo := rfl
@[simp] theorem State.outWrite_pc (j : Nat) (bs : List Byte) : (s.outWrite j bs).pc = s.pc := rfl
@[simp] theorem State.outWrite_params (j : Nat) (bs : List Byte) :
    (s.outWrite j bs).params = s.params := rfl
@[simp] theorem State.outWrite_host (j : Nat) (bs : List Byte) :
    (s.outWrite j bs).host = s.host := rfl
@[simp] theorem State.outWrite_reply (j : Nat) (bs : List Byte) :
    (s.outWrite j bs).reply = s.reply := rfl
@[simp] theorem State.outWrite_draws (j : Nat) (bs : List Byte) :
    (s.outWrite j bs).draws = s.draws := rfl
@[simp] theorem State.outWrite_bufByte (j : Nat) (bs : List Byte) (addr : Nat) :
    (s.outWrite j bs).bufByte addr = s.bufByte addr := rfl
@[simp] theorem State.outWrite_streamOff (j : Nat) (bs : List Byte) :
    (s.outWrite j bs).streamOff = s.streamOff := rfl
@[simp] theorem State.outWrite_adlerOff (j : Nat) (bs : List Byte) :
    (s.outWrite j bs).adlerOff = s.adlerOff := rfl
@[simp] theorem State.outWrite_bufBytes (j : Nat) (bs : List Byte) (addr len : Nat) :
    (s.outWrite j bs).bufBytes addr len = s.bufBytes addr len := rfl
@[simp] theorem State.outWrite_memRead (j : Nat) (bs : List Byte) (addr len : Nat) :
    (s.outWrite j bs).memRead addr len = s.memRead addr len := rfl
@[simp] theorem State.outWrite_srcStream (j : Nat) (bs : List Byte) :
    (s.outWrite j bs).srcStream = s.srcStream := rfl

/-! ### complete -/

@[simp] theorem State.complete_buf : (s.complete).buf = s.buf := rfl
@[simp] theorem State.complete_out : (s.complete).out = s.out := rfl
@[simp] theorem State.complete_outlen : (s.complete).outlen = s.outlen := rfl
@[simp] theorem State.complete_tab : (s.complete).tab = s.tab := rfl
@[simp] theorem State.complete_s1 : (s.complete).s1 = s.s1 := rfl
@[simp] theorem State.complete_s2 : (s.complete).s2 = s.s2 := rfl
@[simp] theorem State.complete_n : (s.complete).n = s.n := rfl
@[simp] theorem State.complete_crc : (s.complete).crc = s.crc := rfl
@[simp] theorem State.complete_g : (s.complete).g = s.g := rfl
@[simp] theorem State.complete_cnt : (s.complete).cnt = s.cnt := rfl
@[simp] theorem State.complete_ptr : (s.complete).ptr = s.ptr := rfl
@[simp] theorem State.complete_optr : (s.complete).optr = s.optr := rfl
@[simp] theorem State.complete_tabv : (s.complete).tabv = s.tabv := rfl
@[simp] theorem State.complete_faulted : (s.complete).faulted = s.faulted := rfl
@[simp] theorem State.complete_outv : (s.complete).outv = s.outv := rfl
@[simp] theorem State.complete_fcause : (s.complete).fcause = s.fcause := rfl
@[simp] theorem State.complete_finfo : (s.complete).finfo = s.finfo := rfl
@[simp] theorem State.complete_pc : (s.complete).pc = s.pc + 1 := rfl
@[simp] theorem State.complete_params : (s.complete).params = s.params := rfl
@[simp] theorem State.complete_host : (s.complete).host = s.host := rfl
@[simp] theorem State.complete_reply : (s.complete).reply = s.reply := rfl
@[simp] theorem State.complete_draws : (s.complete).draws = s.draws := rfl
@[simp] theorem State.complete_bufByte (addr : Nat) : (s.complete).bufByte addr = s.bufByte addr := rfl
@[simp] theorem State.complete_outByte (addr : Nat) : (s.complete).outByte addr = s.outByte addr := rfl
@[simp] theorem State.complete_streamOff : (s.complete).streamOff = s.streamOff := rfl
@[simp] theorem State.complete_adlerOff : (s.complete).adlerOff = s.adlerOff := rfl
@[simp] theorem State.complete_bufBytes (addr len : Nat) :
    (s.complete).bufBytes addr len = s.bufBytes addr len := rfl
@[simp] theorem State.complete_memRead (addr len : Nat) :
    (s.complete).memRead addr len = s.memRead addr len := rfl
@[simp] theorem State.complete_srcStream : (s.complete).srcStream = s.srcStream := rfl
@[simp] theorem State.complete_outBytes (len : Nat) :
    (s.complete).outBytes len = s.outBytes len := rfl

/-! ### raiseFault -/

@[simp] theorem State.raiseFault_buf (c : Fault) (w : Word) : (s.raiseFault c w).buf = s.buf := rfl
@[simp] theorem State.raiseFault_out (c : Fault) (w : Word) : (s.raiseFault c w).out = s.out := rfl
@[simp] theorem State.raiseFault_outlen (c : Fault) (w : Word) :
    (s.raiseFault c w).outlen = s.outlen := rfl
@[simp] theorem State.raiseFault_tab (c : Fault) (w : Word) : (s.raiseFault c w).tab = s.tab := rfl
@[simp] theorem State.raiseFault_s1 (c : Fault) (w : Word) : (s.raiseFault c w).s1 = s.s1 := rfl
@[simp] theorem State.raiseFault_s2 (c : Fault) (w : Word) : (s.raiseFault c w).s2 = s.s2 := rfl
@[simp] theorem State.raiseFault_n (c : Fault) (w : Word) : (s.raiseFault c w).n = s.n := rfl
@[simp] theorem State.raiseFault_crc (c : Fault) (w : Word) : (s.raiseFault c w).crc = s.crc := rfl
@[simp] theorem State.raiseFault_g (c : Fault) (w : Word) : (s.raiseFault c w).g = s.g := rfl
@[simp] theorem State.raiseFault_cnt (c : Fault) (w : Word) : (s.raiseFault c w).cnt = s.cnt := rfl
@[simp] theorem State.raiseFault_ptr (c : Fault) (w : Word) : (s.raiseFault c w).ptr = s.ptr := rfl
@[simp] theorem State.raiseFault_optr (c : Fault) (w : Word) :
    (s.raiseFault c w).optr = s.optr := rfl
@[simp] theorem State.raiseFault_tabv (c : Fault) (w : Word) :
    (s.raiseFault c w).tabv = s.tabv := rfl
@[simp] theorem State.raiseFault_faulted (c : Fault) (w : Word) :
    (s.raiseFault c w).faulted = true := rfl
@[simp] theorem State.raiseFault_outv (c : Fault) (w : Word) :
    (s.raiseFault c w).outv = s.outv := rfl
@[simp] theorem State.raiseFault_fcause (c : Fault) (w : Word) :
    (s.raiseFault c w).fcause = c.code := rfl
@[simp] theorem State.raiseFault_finfo (c : Fault) (w : Word) : (s.raiseFault c w).finfo = w := rfl
@[simp] theorem State.raiseFault_pc (c : Fault) (w : Word) : (s.raiseFault c w).pc = s.pc := rfl
@[simp] theorem State.raiseFault_params (c : Fault) (w : Word) :
    (s.raiseFault c w).params = s.params := rfl
@[simp] theorem State.raiseFault_host (c : Fault) (w : Word) :
    (s.raiseFault c w).host = s.host := rfl
@[simp] theorem State.raiseFault_reply (c : Fault) (w : Word) :
    (s.raiseFault c w).reply = s.reply := rfl
@[simp] theorem State.raiseFault_draws (c : Fault) (w : Word) :
    (s.raiseFault c w).draws = s.draws := rfl
@[simp] theorem State.raiseFault_bufByte (c : Fault) (w : Word) (addr : Nat) :
    (s.raiseFault c w).bufByte addr = s.bufByte addr := rfl
@[simp] theorem State.raiseFault_outByte (c : Fault) (w : Word) (addr : Nat) :
    (s.raiseFault c w).outByte addr = s.outByte addr := rfl
@[simp] theorem State.raiseFault_streamOff (c : Fault) (w : Word) :
    (s.raiseFault c w).streamOff = s.streamOff := rfl
@[simp] theorem State.raiseFault_adlerOff (c : Fault) (w : Word) :
    (s.raiseFault c w).adlerOff = s.adlerOff := rfl
@[simp] theorem State.raiseFault_bufBytes (c : Fault) (w : Word) (addr len : Nat) :
    (s.raiseFault c w).bufBytes addr len = s.bufBytes addr len := rfl
@[simp] theorem State.raiseFault_memRead (c : Fault) (w : Word) (addr len : Nat) :
    (s.raiseFault c w).memRead addr len = s.memRead addr len := rfl
@[simp] theorem State.raiseFault_srcStream (c : Fault) (w : Word) :
    (s.raiseFault c w).srcStream = s.srcStream := rfl
@[simp] theorem State.raiseFault_outBytes (c : Fault) (w : Word) (len : Nat) :
    (s.raiseFault c w).outBytes len = s.outBytes len := rfl

/-! ### setAdler -/

@[simp] theorem State.setAdler_buf (x y : Word) (k : BitVec 13) (p : BitVec 12) :
    (s.setAdler x y k p).buf = s.buf := rfl
@[simp] theorem State.setAdler_out (x y : Word) (k : BitVec 13) (p : BitVec 12) :
    (s.setAdler x y k p).out = s.out := rfl
@[simp] theorem State.setAdler_outlen (x y : Word) (k : BitVec 13) (p : BitVec 12) :
    (s.setAdler x y k p).outlen = s.outlen := rfl
@[simp] theorem State.setAdler_tab (x y : Word) (k : BitVec 13) (p : BitVec 12) :
    (s.setAdler x y k p).tab = s.tab := rfl
@[simp] theorem State.setAdler_s1 (x y : Word) (k : BitVec 13) (p : BitVec 12) :
    (s.setAdler x y k p).s1 = x := rfl
@[simp] theorem State.setAdler_s2 (x y : Word) (k : BitVec 13) (p : BitVec 12) :
    (s.setAdler x y k p).s2 = y := rfl
@[simp] theorem State.setAdler_n (x y : Word) (k : BitVec 13) (p : BitVec 12) :
    (s.setAdler x y k p).n = k := rfl
@[simp] theorem State.setAdler_crc (x y : Word) (k : BitVec 13) (p : BitVec 12) :
    (s.setAdler x y k p).crc = s.crc := rfl
@[simp] theorem State.setAdler_g (x y : Word) (k : BitVec 13) (p : BitVec 12) :
    (s.setAdler x y k p).g = s.g := rfl
@[simp] theorem State.setAdler_cnt (x y : Word) (k : BitVec 13) (p : BitVec 12) :
    (s.setAdler x y k p).cnt = s.cnt := rfl
@[simp] theorem State.setAdler_ptr (x y : Word) (k : BitVec 13) (p : BitVec 12) :
    (s.setAdler x y k p).ptr = p := rfl
@[simp] theorem State.setAdler_optr (x y : Word) (k : BitVec 13) (p : BitVec 12) :
    (s.setAdler x y k p).optr = s.optr := rfl
@[simp] theorem State.setAdler_tabv (x y : Word) (k : BitVec 13) (p : BitVec 12) :
    (s.setAdler x y k p).tabv = s.tabv := rfl
@[simp] theorem State.setAdler_faulted (x y : Word) (k : BitVec 13) (p : BitVec 12) :
    (s.setAdler x y k p).faulted = s.faulted := rfl
@[simp] theorem State.setAdler_outv (x y : Word) (k : BitVec 13) (p : BitVec 12) :
    (s.setAdler x y k p).outv = s.outv := rfl
@[simp] theorem State.setAdler_fcause (x y : Word) (k : BitVec 13) (p : BitVec 12) :
    (s.setAdler x y k p).fcause = s.fcause := rfl
@[simp] theorem State.setAdler_finfo (x y : Word) (k : BitVec 13) (p : BitVec 12) :
    (s.setAdler x y k p).finfo = s.finfo := rfl
@[simp] theorem State.setAdler_pc (x y : Word) (k : BitVec 13) (p : BitVec 12) :
    (s.setAdler x y k p).pc = s.pc := rfl
@[simp] theorem State.setAdler_params (x y : Word) (k : BitVec 13) (p : BitVec 12) :
    (s.setAdler x y k p).params = s.params := rfl
@[simp] theorem State.setAdler_host (x y : Word) (k : BitVec 13) (p : BitVec 12) :
    (s.setAdler x y k p).host = s.host := rfl
@[simp] theorem State.setAdler_reply (x y : Word) (k : BitVec 13) (p : BitVec 12) :
    (s.setAdler x y k p).reply = s.reply := rfl
@[simp] theorem State.setAdler_draws (x y : Word) (k : BitVec 13) (p : BitVec 12) :
    (s.setAdler x y k p).draws = s.draws := rfl
@[simp] theorem State.setAdler_bufByte (x y : Word) (k : BitVec 13) (p : BitVec 12) (addr : Nat) :
    (s.setAdler x y k p).bufByte addr = s.bufByte addr := rfl
@[simp] theorem State.setAdler_outByte (x y : Word) (k : BitVec 13) (p : BitVec 12) (addr : Nat) :
    (s.setAdler x y k p).outByte addr = s.outByte addr := rfl
@[simp] theorem State.setAdler_streamOff (x y : Word) (k : BitVec 13) (p : BitVec 12) :
    (s.setAdler x y k p).streamOff = s.streamOff := rfl
@[simp] theorem State.setAdler_adlerOff (x y : Word) (k : BitVec 13) (p : BitVec 12) :
    (s.setAdler x y k p).adlerOff = s.adlerOff := rfl
@[simp] theorem State.setAdler_bufBytes (x y : Word) (k : BitVec 13) (p : BitVec 12) (addr len : Nat) :
    (s.setAdler x y k p).bufBytes addr len = s.bufBytes addr len := rfl
@[simp] theorem State.setAdler_memRead (x y : Word) (k : BitVec 13) (p : BitVec 12) (addr len : Nat) :
    (s.setAdler x y k p).memRead addr len = s.memRead addr len := rfl
@[simp] theorem State.setAdler_srcStream (x y : Word) (k : BitVec 13) (p : BitVec 12) :
    (s.setAdler x y k p).srcStream = s.srcStream := rfl
@[simp] theorem State.setAdler_outBytes (x y : Word) (k : BitVec 13) (p : BitVec 12) (len : Nat) :
    (s.setAdler x y k p).outBytes len = s.outBytes len := rfl

/-! ### setCrc -/

@[simp] theorem State.setCrc_buf (x : Word) (p : BitVec 12) : (s.setCrc x p).buf = s.buf := rfl
@[simp] theorem State.setCrc_out (x : Word) (p : BitVec 12) : (s.setCrc x p).out = s.out := rfl
@[simp] theorem State.setCrc_outlen (x : Word) (p : BitVec 12) :
    (s.setCrc x p).outlen = s.outlen := rfl
@[simp] theorem State.setCrc_tab (x : Word) (p : BitVec 12) : (s.setCrc x p).tab = s.tab := rfl
@[simp] theorem State.setCrc_s1 (x : Word) (p : BitVec 12) : (s.setCrc x p).s1 = s.s1 := rfl
@[simp] theorem State.setCrc_s2 (x : Word) (p : BitVec 12) : (s.setCrc x p).s2 = s.s2 := rfl
@[simp] theorem State.setCrc_n (x : Word) (p : BitVec 12) : (s.setCrc x p).n = s.n := rfl
@[simp] theorem State.setCrc_crc (x : Word) (p : BitVec 12) : (s.setCrc x p).crc = x := rfl
@[simp] theorem State.setCrc_g (x : Word) (p : BitVec 12) : (s.setCrc x p).g = s.g := rfl
@[simp] theorem State.setCrc_cnt (x : Word) (p : BitVec 12) : (s.setCrc x p).cnt = s.cnt := rfl
@[simp] theorem State.setCrc_ptr (x : Word) (p : BitVec 12) : (s.setCrc x p).ptr = p := rfl
@[simp] theorem State.setCrc_optr (x : Word) (p : BitVec 12) : (s.setCrc x p).optr = s.optr := rfl
@[simp] theorem State.setCrc_tabv (x : Word) (p : BitVec 12) : (s.setCrc x p).tabv = s.tabv := rfl
@[simp] theorem State.setCrc_faulted (x : Word) (p : BitVec 12) :
    (s.setCrc x p).faulted = s.faulted := rfl
@[simp] theorem State.setCrc_outv (x : Word) (p : BitVec 12) : (s.setCrc x p).outv = s.outv := rfl
@[simp] theorem State.setCrc_fcause (x : Word) (p : BitVec 12) :
    (s.setCrc x p).fcause = s.fcause := rfl
@[simp] theorem State.setCrc_finfo (x : Word) (p : BitVec 12) :
    (s.setCrc x p).finfo = s.finfo := rfl
@[simp] theorem State.setCrc_pc (x : Word) (p : BitVec 12) : (s.setCrc x p).pc = s.pc := rfl
@[simp] theorem State.setCrc_params (x : Word) (p : BitVec 12) :
    (s.setCrc x p).params = s.params := rfl
@[simp] theorem State.setCrc_host (x : Word) (p : BitVec 12) : (s.setCrc x p).host = s.host := rfl
@[simp] theorem State.setCrc_reply (x : Word) (p : BitVec 12) :
    (s.setCrc x p).reply = s.reply := rfl
@[simp] theorem State.setCrc_draws (x : Word) (p : BitVec 12) :
    (s.setCrc x p).draws = s.draws := rfl
@[simp] theorem State.setCrc_bufByte (x : Word) (p : BitVec 12) (addr : Nat) :
    (s.setCrc x p).bufByte addr = s.bufByte addr := rfl
@[simp] theorem State.setCrc_outByte (x : Word) (p : BitVec 12) (addr : Nat) :
    (s.setCrc x p).outByte addr = s.outByte addr := rfl
@[simp] theorem State.setCrc_streamOff (x : Word) (p : BitVec 12) :
    (s.setCrc x p).streamOff = s.streamOff := rfl
@[simp] theorem State.setCrc_adlerOff (x : Word) (p : BitVec 12) :
    (s.setCrc x p).adlerOff = s.adlerOff := rfl
@[simp] theorem State.setCrc_bufBytes (x : Word) (p : BitVec 12) (addr len : Nat) :
    (s.setCrc x p).bufBytes addr len = s.bufBytes addr len := rfl
@[simp] theorem State.setCrc_memRead (x : Word) (p : BitVec 12) (addr len : Nat) :
    (s.setCrc x p).memRead addr len = s.memRead addr len := rfl
@[simp] theorem State.setCrc_srcStream (x : Word) (p : BitVec 12) :
    (s.setCrc x p).srcStream = s.srcStream := rfl
@[simp] theorem State.setCrc_outBytes (x : Word) (p : BitVec 12) (len : Nat) :
    (s.setCrc x p).outBytes len = s.outBytes len := rfl

/-! ### setB64 -/

@[simp] theorem State.setB64_buf (x : BitVec 24) (k : BitVec 2) (p q : BitVec 12) :
    (s.setB64 x k p q).buf = s.buf := rfl
@[simp] theorem State.setB64_out (x : BitVec 24) (k : BitVec 2) (p q : BitVec 12) :
    (s.setB64 x k p q).out = s.out := rfl
@[simp] theorem State.setB64_outlen (x : BitVec 24) (k : BitVec 2) (p q : BitVec 12) :
    (s.setB64 x k p q).outlen = s.outlen := rfl
@[simp] theorem State.setB64_tab (x : BitVec 24) (k : BitVec 2) (p q : BitVec 12) :
    (s.setB64 x k p q).tab = s.tab := rfl
@[simp] theorem State.setB64_s1 (x : BitVec 24) (k : BitVec 2) (p q : BitVec 12) :
    (s.setB64 x k p q).s1 = s.s1 := rfl
@[simp] theorem State.setB64_s2 (x : BitVec 24) (k : BitVec 2) (p q : BitVec 12) :
    (s.setB64 x k p q).s2 = s.s2 := rfl
@[simp] theorem State.setB64_n (x : BitVec 24) (k : BitVec 2) (p q : BitVec 12) :
    (s.setB64 x k p q).n = s.n := rfl
@[simp] theorem State.setB64_crc (x : BitVec 24) (k : BitVec 2) (p q : BitVec 12) :
    (s.setB64 x k p q).crc = s.crc := rfl
@[simp] theorem State.setB64_g (x : BitVec 24) (k : BitVec 2) (p q : BitVec 12) :
    (s.setB64 x k p q).g = x := rfl
@[simp] theorem State.setB64_cnt (x : BitVec 24) (k : BitVec 2) (p q : BitVec 12) :
    (s.setB64 x k p q).cnt = k := rfl
@[simp] theorem State.setB64_ptr (x : BitVec 24) (k : BitVec 2) (p q : BitVec 12) :
    (s.setB64 x k p q).ptr = p := rfl
@[simp] theorem State.setB64_optr (x : BitVec 24) (k : BitVec 2) (p q : BitVec 12) :
    (s.setB64 x k p q).optr = q := rfl
@[simp] theorem State.setB64_tabv (x : BitVec 24) (k : BitVec 2) (p q : BitVec 12) :
    (s.setB64 x k p q).tabv = s.tabv := rfl
@[simp] theorem State.setB64_faulted (x : BitVec 24) (k : BitVec 2) (p q : BitVec 12) :
    (s.setB64 x k p q).faulted = s.faulted := rfl
@[simp] theorem State.setB64_outv (x : BitVec 24) (k : BitVec 2) (p q : BitVec 12) :
    (s.setB64 x k p q).outv = s.outv := rfl
@[simp] theorem State.setB64_fcause (x : BitVec 24) (k : BitVec 2) (p q : BitVec 12) :
    (s.setB64 x k p q).fcause = s.fcause := rfl
@[simp] theorem State.setB64_finfo (x : BitVec 24) (k : BitVec 2) (p q : BitVec 12) :
    (s.setB64 x k p q).finfo = s.finfo := rfl
@[simp] theorem State.setB64_pc (x : BitVec 24) (k : BitVec 2) (p q : BitVec 12) :
    (s.setB64 x k p q).pc = s.pc := rfl
@[simp] theorem State.setB64_params (x : BitVec 24) (k : BitVec 2) (p q : BitVec 12) :
    (s.setB64 x k p q).params = s.params := rfl
@[simp] theorem State.setB64_host (x : BitVec 24) (k : BitVec 2) (p q : BitVec 12) :
    (s.setB64 x k p q).host = s.host := rfl
@[simp] theorem State.setB64_reply (x : BitVec 24) (k : BitVec 2) (p q : BitVec 12) :
    (s.setB64 x k p q).reply = s.reply := rfl
@[simp] theorem State.setB64_draws (x : BitVec 24) (k : BitVec 2) (p q : BitVec 12) :
    (s.setB64 x k p q).draws = s.draws := rfl
@[simp] theorem State.setB64_bufByte (x : BitVec 24) (k : BitVec 2) (p q : BitVec 12) (addr : Nat) :
    (s.setB64 x k p q).bufByte addr = s.bufByte addr := rfl
@[simp] theorem State.setB64_outByte (x : BitVec 24) (k : BitVec 2) (p q : BitVec 12) (addr : Nat) :
    (s.setB64 x k p q).outByte addr = s.outByte addr := rfl
@[simp] theorem State.setB64_streamOff (x : BitVec 24) (k : BitVec 2) (p q : BitVec 12) :
    (s.setB64 x k p q).streamOff = s.streamOff := rfl
@[simp] theorem State.setB64_adlerOff (x : BitVec 24) (k : BitVec 2) (p q : BitVec 12) :
    (s.setB64 x k p q).adlerOff = s.adlerOff := rfl
@[simp] theorem State.setB64_bufBytes (x : BitVec 24) (k : BitVec 2) (p q : BitVec 12) (addr len : Nat) :
    (s.setB64 x k p q).bufBytes addr len = s.bufBytes addr len := rfl
@[simp] theorem State.setB64_memRead (x : BitVec 24) (k : BitVec 2) (p q : BitVec 12) (addr len : Nat) :
    (s.setB64 x k p q).memRead addr len = s.memRead addr len := rfl
@[simp] theorem State.setB64_srcStream (x : BitVec 24) (k : BitVec 2) (p q : BitVec 12) :
    (s.setB64 x k p q).srcStream = s.srcStream := rfl
@[simp] theorem State.setB64_outBytes (x : BitVec 24) (k : BitVec 2) (p q : BitVec 12) (len : Nat) :
    (s.setB64 x k p q).outBytes len = s.outBytes len := rfl

/-! ### setTab -/

@[simp] theorem State.setTab_buf (t : Vector Word 256) : (s.setTab t).buf = s.buf := rfl
@[simp] theorem State.setTab_out (t : Vector Word 256) : (s.setTab t).out = s.out := rfl
@[simp] theorem State.setTab_outlen (t : Vector Word 256) : (s.setTab t).outlen = s.outlen := rfl
@[simp] theorem State.setTab_tab (t : Vector Word 256) : (s.setTab t).tab = t := rfl
@[simp] theorem State.setTab_s1 (t : Vector Word 256) : (s.setTab t).s1 = s.s1 := rfl
@[simp] theorem State.setTab_s2 (t : Vector Word 256) : (s.setTab t).s2 = s.s2 := rfl
@[simp] theorem State.setTab_n (t : Vector Word 256) : (s.setTab t).n = s.n := rfl
@[simp] theorem State.setTab_crc (t : Vector Word 256) : (s.setTab t).crc = s.crc := rfl
@[simp] theorem State.setTab_g (t : Vector Word 256) : (s.setTab t).g = s.g := rfl
@[simp] theorem State.setTab_cnt (t : Vector Word 256) : (s.setTab t).cnt = s.cnt := rfl
@[simp] theorem State.setTab_ptr (t : Vector Word 256) : (s.setTab t).ptr = s.ptr := rfl
@[simp] theorem State.setTab_optr (t : Vector Word 256) : (s.setTab t).optr = s.optr := rfl
@[simp] theorem State.setTab_tabv (t : Vector Word 256) : (s.setTab t).tabv = s.tabv := rfl
@[simp] theorem State.setTab_faulted (t : Vector Word 256) : (s.setTab t).faulted = s.faulted := rfl
@[simp] theorem State.setTab_outv (t : Vector Word 256) : (s.setTab t).outv = s.outv := rfl
@[simp] theorem State.setTab_fcause (t : Vector Word 256) : (s.setTab t).fcause = s.fcause := rfl
@[simp] theorem State.setTab_finfo (t : Vector Word 256) : (s.setTab t).finfo = s.finfo := rfl
@[simp] theorem State.setTab_pc (t : Vector Word 256) : (s.setTab t).pc = s.pc := rfl
@[simp] theorem State.setTab_params (t : Vector Word 256) : (s.setTab t).params = s.params := rfl
@[simp] theorem State.setTab_host (t : Vector Word 256) : (s.setTab t).host = s.host := rfl
@[simp] theorem State.setTab_reply (t : Vector Word 256) : (s.setTab t).reply = s.reply := rfl
@[simp] theorem State.setTab_draws (t : Vector Word 256) : (s.setTab t).draws = s.draws := rfl
@[simp] theorem State.setTab_bufByte (t : Vector Word 256) (addr : Nat) :
    (s.setTab t).bufByte addr = s.bufByte addr := rfl
@[simp] theorem State.setTab_outByte (t : Vector Word 256) (addr : Nat) :
    (s.setTab t).outByte addr = s.outByte addr := rfl
@[simp] theorem State.setTab_streamOff (t : Vector Word 256) :
    (s.setTab t).streamOff = s.streamOff := rfl
@[simp] theorem State.setTab_adlerOff (t : Vector Word 256) :
    (s.setTab t).adlerOff = s.adlerOff := rfl
@[simp] theorem State.setTab_bufBytes (t : Vector Word 256) (addr len : Nat) :
    (s.setTab t).bufBytes addr len = s.bufBytes addr len := rfl
@[simp] theorem State.setTab_memRead (t : Vector Word 256) (addr len : Nat) :
    (s.setTab t).memRead addr len = s.memRead addr len := rfl
@[simp] theorem State.setTab_srcStream (t : Vector Word 256) :
    (s.setTab t).srcStream = s.srcStream := rfl
@[simp] theorem State.setTab_outBytes (t : Vector Word 256) (len : Nat) :
    (s.setTab t).outBytes len = s.outBytes len := rfl

/-! ### setOutlen -/

@[simp] theorem State.setOutlen_buf (k : BitVec 12) : (s.setOutlen k).buf = s.buf := rfl
@[simp] theorem State.setOutlen_out (k : BitVec 12) : (s.setOutlen k).out = s.out := rfl
@[simp] theorem State.setOutlen_outlen (k : BitVec 12) : (s.setOutlen k).outlen = k := rfl
@[simp] theorem State.setOutlen_tab (k : BitVec 12) : (s.setOutlen k).tab = s.tab := rfl
@[simp] theorem State.setOutlen_s1 (k : BitVec 12) : (s.setOutlen k).s1 = s.s1 := rfl
@[simp] theorem State.setOutlen_s2 (k : BitVec 12) : (s.setOutlen k).s2 = s.s2 := rfl
@[simp] theorem State.setOutlen_n (k : BitVec 12) : (s.setOutlen k).n = s.n := rfl
@[simp] theorem State.setOutlen_crc (k : BitVec 12) : (s.setOutlen k).crc = s.crc := rfl
@[simp] theorem State.setOutlen_g (k : BitVec 12) : (s.setOutlen k).g = s.g := rfl
@[simp] theorem State.setOutlen_cnt (k : BitVec 12) : (s.setOutlen k).cnt = s.cnt := rfl
@[simp] theorem State.setOutlen_ptr (k : BitVec 12) : (s.setOutlen k).ptr = s.ptr := rfl
@[simp] theorem State.setOutlen_optr (k : BitVec 12) : (s.setOutlen k).optr = s.optr := rfl
@[simp] theorem State.setOutlen_tabv (k : BitVec 12) : (s.setOutlen k).tabv = s.tabv := rfl
@[simp] theorem State.setOutlen_faulted (k : BitVec 12) : (s.setOutlen k).faulted = s.faulted := rfl
@[simp] theorem State.setOutlen_outv (k : BitVec 12) : (s.setOutlen k).outv = s.outv := rfl
@[simp] theorem State.setOutlen_fcause (k : BitVec 12) : (s.setOutlen k).fcause = s.fcause := rfl
@[simp] theorem State.setOutlen_finfo (k : BitVec 12) : (s.setOutlen k).finfo = s.finfo := rfl
@[simp] theorem State.setOutlen_pc (k : BitVec 12) : (s.setOutlen k).pc = s.pc := rfl
@[simp] theorem State.setOutlen_params (k : BitVec 12) : (s.setOutlen k).params = s.params := rfl
@[simp] theorem State.setOutlen_host (k : BitVec 12) : (s.setOutlen k).host = s.host := rfl
@[simp] theorem State.setOutlen_reply (k : BitVec 12) : (s.setOutlen k).reply = s.reply := rfl
@[simp] theorem State.setOutlen_draws (k : BitVec 12) : (s.setOutlen k).draws = s.draws := rfl
@[simp] theorem State.setOutlen_bufByte (k : BitVec 12) (addr : Nat) :
    (s.setOutlen k).bufByte addr = s.bufByte addr := rfl
@[simp] theorem State.setOutlen_outByte (k : BitVec 12) (addr : Nat) :
    (s.setOutlen k).outByte addr = s.outByte addr := rfl
@[simp] theorem State.setOutlen_streamOff (k : BitVec 12) :
    (s.setOutlen k).streamOff = s.streamOff := rfl
@[simp] theorem State.setOutlen_adlerOff (k : BitVec 12) :
    (s.setOutlen k).adlerOff = s.adlerOff := rfl
@[simp] theorem State.setOutlen_bufBytes (k : BitVec 12) (addr len : Nat) :
    (s.setOutlen k).bufBytes addr len = s.bufBytes addr len := rfl
@[simp] theorem State.setOutlen_memRead (k : BitVec 12) (addr len : Nat) :
    (s.setOutlen k).memRead addr len = s.memRead addr len := rfl
@[simp] theorem State.setOutlen_srcStream (k : BitVec 12) :
    (s.setOutlen k).srcStream = s.srcStream := rfl
@[simp] theorem State.setOutlen_outBytes (k : BitVec 12) (len : Nat) :
    (s.setOutlen k).outBytes len = s.outBytes len := rfl

/-! ### freeCrc -/

@[simp] theorem State.freeCrc_buf : (s.freeCrc).buf = s.buf := rfl
@[simp] theorem State.freeCrc_out : (s.freeCrc).out = s.out := rfl
@[simp] theorem State.freeCrc_outlen : (s.freeCrc).outlen = s.outlen := rfl
@[simp] theorem State.freeCrc_tab : (s.freeCrc).tab = s.tab := rfl
@[simp] theorem State.freeCrc_s1 : (s.freeCrc).s1 = s.s1 := rfl
@[simp] theorem State.freeCrc_s2 : (s.freeCrc).s2 = s.s2 := rfl
@[simp] theorem State.freeCrc_n : (s.freeCrc).n = s.n := rfl
@[simp] theorem State.freeCrc_crc : (s.freeCrc).crc = Config.freeWord s.draws := rfl
@[simp] theorem State.freeCrc_g : (s.freeCrc).g = s.g := rfl
@[simp] theorem State.freeCrc_cnt : (s.freeCrc).cnt = s.cnt := rfl
@[simp] theorem State.freeCrc_ptr : (s.freeCrc).ptr = s.ptr := rfl
@[simp] theorem State.freeCrc_optr : (s.freeCrc).optr = s.optr := rfl
@[simp] theorem State.freeCrc_tabv : (s.freeCrc).tabv = s.tabv := rfl
@[simp] theorem State.freeCrc_faulted : (s.freeCrc).faulted = s.faulted := rfl
@[simp] theorem State.freeCrc_outv : (s.freeCrc).outv = s.outv := rfl
@[simp] theorem State.freeCrc_fcause : (s.freeCrc).fcause = s.fcause := rfl
@[simp] theorem State.freeCrc_finfo : (s.freeCrc).finfo = s.finfo := rfl
@[simp] theorem State.freeCrc_pc : (s.freeCrc).pc = s.pc := rfl
@[simp] theorem State.freeCrc_params : (s.freeCrc).params = s.params := rfl
@[simp] theorem State.freeCrc_host : (s.freeCrc).host = s.host := rfl
@[simp] theorem State.freeCrc_reply : (s.freeCrc).reply = s.reply := rfl
@[simp] theorem State.freeCrc_draws : (s.freeCrc).draws = s.draws + 1 := rfl
@[simp] theorem State.freeCrc_bufByte (addr : Nat) : (s.freeCrc).bufByte addr = s.bufByte addr := rfl
@[simp] theorem State.freeCrc_outByte (addr : Nat) : (s.freeCrc).outByte addr = s.outByte addr := rfl
@[simp] theorem State.freeCrc_streamOff : (s.freeCrc).streamOff = s.streamOff := rfl
@[simp] theorem State.freeCrc_adlerOff : (s.freeCrc).adlerOff = s.adlerOff := rfl
@[simp] theorem State.freeCrc_bufBytes (addr len : Nat) :
    (s.freeCrc).bufBytes addr len = s.bufBytes addr len := rfl
@[simp] theorem State.freeCrc_memRead (addr len : Nat) :
    (s.freeCrc).memRead addr len = s.memRead addr len := rfl
@[simp] theorem State.freeCrc_srcStream : (s.freeCrc).srcStream = s.srcStream := rfl
@[simp] theorem State.freeCrc_outBytes (len : Nat) :
    (s.freeCrc).outBytes len = s.outBytes len := rfl

/-! ### answer -/

@[simp] theorem State.answer_buf (r : Reply) : (s.answer r).buf = s.buf := rfl
@[simp] theorem State.answer_out (r : Reply) : (s.answer r).out = s.out := rfl
@[simp] theorem State.answer_outlen (r : Reply) : (s.answer r).outlen = s.outlen := rfl
@[simp] theorem State.answer_tab (r : Reply) : (s.answer r).tab = s.tab := rfl
@[simp] theorem State.answer_s1 (r : Reply) : (s.answer r).s1 = s.s1 := rfl
@[simp] theorem State.answer_s2 (r : Reply) : (s.answer r).s2 = s.s2 := rfl
@[simp] theorem State.answer_n (r : Reply) : (s.answer r).n = s.n := rfl
@[simp] theorem State.answer_crc (r : Reply) : (s.answer r).crc = s.crc := rfl
@[simp] theorem State.answer_g (r : Reply) : (s.answer r).g = s.g := rfl
@[simp] theorem State.answer_cnt (r : Reply) : (s.answer r).cnt = s.cnt := rfl
@[simp] theorem State.answer_ptr (r : Reply) : (s.answer r).ptr = s.ptr := rfl
@[simp] theorem State.answer_optr (r : Reply) : (s.answer r).optr = s.optr := rfl
@[simp] theorem State.answer_tabv (r : Reply) : (s.answer r).tabv = s.tabv := rfl
@[simp] theorem State.answer_faulted (r : Reply) : (s.answer r).faulted = s.faulted := rfl
@[simp] theorem State.answer_outv (r : Reply) : (s.answer r).outv = s.outv := rfl
@[simp] theorem State.answer_fcause (r : Reply) : (s.answer r).fcause = s.fcause := rfl
@[simp] theorem State.answer_finfo (r : Reply) : (s.answer r).finfo = s.finfo := rfl
@[simp] theorem State.answer_pc (r : Reply) : (s.answer r).pc = s.pc := rfl
@[simp] theorem State.answer_params (r : Reply) : (s.answer r).params = s.params := rfl
@[simp] theorem State.answer_host (r : Reply) : (s.answer r).host = s.host := rfl
@[simp] theorem State.answer_reply (r : Reply) : (s.answer r).reply = r := rfl
@[simp] theorem State.answer_draws (r : Reply) : (s.answer r).draws = s.draws := rfl
@[simp] theorem State.answer_bufByte (r : Reply) (addr : Nat) :
    (s.answer r).bufByte addr = s.bufByte addr := rfl
@[simp] theorem State.answer_outByte (r : Reply) (addr : Nat) :
    (s.answer r).outByte addr = s.outByte addr := rfl
@[simp] theorem State.answer_streamOff (r : Reply) : (s.answer r).streamOff = s.streamOff := rfl
@[simp] theorem State.answer_adlerOff (r : Reply) : (s.answer r).adlerOff = s.adlerOff := rfl
@[simp] theorem State.answer_bufBytes (r : Reply) (addr len : Nat) :
    (s.answer r).bufBytes addr len = s.bufBytes addr len := rfl
@[simp] theorem State.answer_memRead (r : Reply) (addr len : Nat) :
    (s.answer r).memRead addr len = s.memRead addr len := rfl
@[simp] theorem State.answer_srcStream (r : Reply) : (s.answer r).srcStream = s.srcStream := rfl
@[simp] theorem State.answer_outBytes (r : Reply) (len : Nat) :
    (s.answer r).outBytes len = s.outBytes len := rfl

/-! ### answerFree -/

@[simp] theorem State.answerFree_buf : (s.answerFree).buf = s.buf := rfl
@[simp] theorem State.answerFree_out : (s.answerFree).out = s.out := rfl
@[simp] theorem State.answerFree_outlen : (s.answerFree).outlen = s.outlen := rfl
@[simp] theorem State.answerFree_tab : (s.answerFree).tab = s.tab := rfl
@[simp] theorem State.answerFree_s1 : (s.answerFree).s1 = s.s1 := rfl
@[simp] theorem State.answerFree_s2 : (s.answerFree).s2 = s.s2 := rfl
@[simp] theorem State.answerFree_n : (s.answerFree).n = s.n := rfl
@[simp] theorem State.answerFree_crc : (s.answerFree).crc = s.crc := rfl
@[simp] theorem State.answerFree_g : (s.answerFree).g = s.g := rfl
@[simp] theorem State.answerFree_cnt : (s.answerFree).cnt = s.cnt := rfl
@[simp] theorem State.answerFree_ptr : (s.answerFree).ptr = s.ptr := rfl
@[simp] theorem State.answerFree_optr : (s.answerFree).optr = s.optr := rfl
@[simp] theorem State.answerFree_tabv : (s.answerFree).tabv = s.tabv := rfl
@[simp] theorem State.answerFree_faulted : (s.answerFree).faulted = s.faulted := rfl
@[simp] theorem State.answerFree_outv : (s.answerFree).outv = s.outv := rfl
@[simp] theorem State.answerFree_fcause : (s.answerFree).fcause = s.fcause := rfl
@[simp] theorem State.answerFree_finfo : (s.answerFree).finfo = s.finfo := rfl
@[simp] theorem State.answerFree_pc : (s.answerFree).pc = s.pc := rfl
@[simp] theorem State.answerFree_params : (s.answerFree).params = s.params := rfl
@[simp] theorem State.answerFree_host : (s.answerFree).host = s.host := rfl
@[simp] theorem State.answerFree_reply :
    (s.answerFree).reply = .byte (Config.freeByte s.draws) := rfl
@[simp] theorem State.answerFree_draws : (s.answerFree).draws = s.draws + 1 := rfl
@[simp] theorem State.answerFree_bufByte (addr : Nat) : (s.answerFree).bufByte addr = s.bufByte addr := rfl
@[simp] theorem State.answerFree_outByte (addr : Nat) : (s.answerFree).outByte addr = s.outByte addr := rfl
@[simp] theorem State.answerFree_streamOff : (s.answerFree).streamOff = s.streamOff := rfl
@[simp] theorem State.answerFree_adlerOff : (s.answerFree).adlerOff = s.adlerOff := rfl
@[simp] theorem State.answerFree_bufBytes (addr len : Nat) :
    (s.answerFree).bufBytes addr len = s.bufBytes addr len := rfl
@[simp] theorem State.answerFree_memRead (addr len : Nat) :
    (s.answerFree).memRead addr len = s.memRead addr len := rfl
@[simp] theorem State.answerFree_srcStream : (s.answerFree).srcStream = s.srcStream := rfl
@[simp] theorem State.answerFree_outBytes (len : Nat) :
    (s.answerFree).outBytes len = s.outBytes len := rfl

/-! ### setHost -/

@[simp] theorem State.setHost_buf (l : List HostAction) : (s.setHost l).buf = s.buf := rfl
@[simp] theorem State.setHost_out (l : List HostAction) : (s.setHost l).out = s.out := rfl
@[simp] theorem State.setHost_outlen (l : List HostAction) : (s.setHost l).outlen = s.outlen := rfl
@[simp] theorem State.setHost_tab (l : List HostAction) : (s.setHost l).tab = s.tab := rfl
@[simp] theorem State.setHost_s1 (l : List HostAction) : (s.setHost l).s1 = s.s1 := rfl
@[simp] theorem State.setHost_s2 (l : List HostAction) : (s.setHost l).s2 = s.s2 := rfl
@[simp] theorem State.setHost_n (l : List HostAction) : (s.setHost l).n = s.n := rfl
@[simp] theorem State.setHost_crc (l : List HostAction) : (s.setHost l).crc = s.crc := rfl
@[simp] theorem State.setHost_g (l : List HostAction) : (s.setHost l).g = s.g := rfl
@[simp] theorem State.setHost_cnt (l : List HostAction) : (s.setHost l).cnt = s.cnt := rfl
@[simp] theorem State.setHost_ptr (l : List HostAction) : (s.setHost l).ptr = s.ptr := rfl
@[simp] theorem State.setHost_optr (l : List HostAction) : (s.setHost l).optr = s.optr := rfl
@[simp] theorem State.setHost_tabv (l : List HostAction) : (s.setHost l).tabv = s.tabv := rfl
@[simp] theorem State.setHost_faulted (l : List HostAction) :
    (s.setHost l).faulted = s.faulted := rfl
@[simp] theorem State.setHost_outv (l : List HostAction) : (s.setHost l).outv = s.outv := rfl
@[simp] theorem State.setHost_fcause (l : List HostAction) : (s.setHost l).fcause = s.fcause := rfl
@[simp] theorem State.setHost_finfo (l : List HostAction) : (s.setHost l).finfo = s.finfo := rfl
@[simp] theorem State.setHost_pc (l : List HostAction) : (s.setHost l).pc = s.pc := rfl
@[simp] theorem State.setHost_params (l : List HostAction) : (s.setHost l).params = s.params := rfl
@[simp] theorem State.setHost_host (l : List HostAction) : (s.setHost l).host = l := rfl
@[simp] theorem State.setHost_reply (l : List HostAction) : (s.setHost l).reply = s.reply := rfl
@[simp] theorem State.setHost_draws (l : List HostAction) : (s.setHost l).draws = s.draws := rfl
@[simp] theorem State.setHost_bufByte (l : List HostAction) (addr : Nat) :
    (s.setHost l).bufByte addr = s.bufByte addr := rfl
@[simp] theorem State.setHost_outByte (l : List HostAction) (addr : Nat) :
    (s.setHost l).outByte addr = s.outByte addr := rfl
@[simp] theorem State.setHost_streamOff (l : List HostAction) :
    (s.setHost l).streamOff = s.streamOff := rfl
@[simp] theorem State.setHost_adlerOff (l : List HostAction) :
    (s.setHost l).adlerOff = s.adlerOff := rfl
@[simp] theorem State.setHost_bufBytes (l : List HostAction) (addr len : Nat) :
    (s.setHost l).bufBytes addr len = s.bufBytes addr len := rfl
@[simp] theorem State.setHost_memRead (l : List HostAction) (addr len : Nat) :
    (s.setHost l).memRead addr len = s.memRead addr len := rfl
@[simp] theorem State.setHost_srcStream (l : List HostAction) :
    (s.setHost l).srcStream = s.srcStream := rfl
@[simp] theorem State.setHost_outBytes (l : List HostAction) (len : Nat) :
    (s.setHost l).outBytes len = s.outBytes len := rfl

/-! ### setTabv -/

@[simp] theorem State.setTabv_buf : (s.setTabv).buf = s.buf := rfl
@[simp] theorem State.setTabv_out : (s.setTabv).out = s.out := rfl
@[simp] theorem State.setTabv_outlen : (s.setTabv).outlen = s.outlen := rfl
@[simp] theorem State.setTabv_tab : (s.setTabv).tab = s.tab := rfl
@[simp] theorem State.setTabv_s1 : (s.setTabv).s1 = s.s1 := rfl
@[simp] theorem State.setTabv_s2 : (s.setTabv).s2 = s.s2 := rfl
@[simp] theorem State.setTabv_n : (s.setTabv).n = s.n := rfl
@[simp] theorem State.setTabv_crc : (s.setTabv).crc = s.crc := rfl
@[simp] theorem State.setTabv_g : (s.setTabv).g = s.g := rfl
@[simp] theorem State.setTabv_cnt : (s.setTabv).cnt = s.cnt := rfl
@[simp] theorem State.setTabv_ptr : (s.setTabv).ptr = s.ptr := rfl
@[simp] theorem State.setTabv_optr : (s.setTabv).optr = s.optr := rfl
@[simp] theorem State.setTabv_tabv : (s.setTabv).tabv = true := rfl
@[simp] theorem State.setTabv_faulted : (s.setTabv).faulted = s.faulted := rfl
@[simp] theorem State.setTabv_outv : (s.setTabv).outv = s.outv := rfl
@[simp] theorem State.setTabv_fcause : (s.setTabv).fcause = s.fcause := rfl
@[simp] theorem State.setTabv_finfo : (s.setTabv).finfo = s.finfo := rfl
@[simp] theorem State.setTabv_pc : (s.setTabv).pc = s.pc := rfl
@[simp] theorem State.setTabv_params : (s.setTabv).params = s.params := rfl
@[simp] theorem State.setTabv_host : (s.setTabv).host = s.host := rfl
@[simp] theorem State.setTabv_reply : (s.setTabv).reply = s.reply := rfl
@[simp] theorem State.setTabv_draws : (s.setTabv).draws = s.draws := rfl
@[simp] theorem State.setTabv_bufByte (addr : Nat) : (s.setTabv).bufByte addr = s.bufByte addr := rfl
@[simp] theorem State.setTabv_outByte (addr : Nat) : (s.setTabv).outByte addr = s.outByte addr := rfl
@[simp] theorem State.setTabv_streamOff : (s.setTabv).streamOff = s.streamOff := rfl
@[simp] theorem State.setTabv_adlerOff : (s.setTabv).adlerOff = s.adlerOff := rfl
@[simp] theorem State.setTabv_bufBytes (addr len : Nat) :
    (s.setTabv).bufBytes addr len = s.bufBytes addr len := rfl
@[simp] theorem State.setTabv_memRead (addr len : Nat) :
    (s.setTabv).memRead addr len = s.memRead addr len := rfl
@[simp] theorem State.setTabv_srcStream : (s.setTabv).srcStream = s.srcStream := rfl
@[simp] theorem State.setTabv_outBytes (len : Nat) :
    (s.setTabv).outBytes len = s.outBytes len := rfl

/-! ### setOutv -/

@[simp] theorem State.setOutv_buf (v : Bool) : (s.setOutv v).buf = s.buf := rfl
@[simp] theorem State.setOutv_out (v : Bool) : (s.setOutv v).out = s.out := rfl
@[simp] theorem State.setOutv_outlen (v : Bool) : (s.setOutv v).outlen = s.outlen := rfl
@[simp] theorem State.setOutv_tab (v : Bool) : (s.setOutv v).tab = s.tab := rfl
@[simp] theorem State.setOutv_s1 (v : Bool) : (s.setOutv v).s1 = s.s1 := rfl
@[simp] theorem State.setOutv_s2 (v : Bool) : (s.setOutv v).s2 = s.s2 := rfl
@[simp] theorem State.setOutv_n (v : Bool) : (s.setOutv v).n = s.n := rfl
@[simp] theorem State.setOutv_crc (v : Bool) : (s.setOutv v).crc = s.crc := rfl
@[simp] theorem State.setOutv_g (v : Bool) : (s.setOutv v).g = s.g := rfl
@[simp] theorem State.setOutv_cnt (v : Bool) : (s.setOutv v).cnt = s.cnt := rfl
@[simp] theorem State.setOutv_ptr (v : Bool) : (s.setOutv v).ptr = s.ptr := rfl
@[simp] theorem State.setOutv_optr (v : Bool) : (s.setOutv v).optr = s.optr := rfl
@[simp] theorem State.setOutv_tabv (v : Bool) : (s.setOutv v).tabv = s.tabv := rfl
@[simp] theorem State.setOutv_faulted (v : Bool) : (s.setOutv v).faulted = s.faulted := rfl
@[simp] theorem State.setOutv_outv (v : Bool) : (s.setOutv v).outv = v := rfl
@[simp] theorem State.setOutv_fcause (v : Bool) : (s.setOutv v).fcause = s.fcause := rfl
@[simp] theorem State.setOutv_finfo (v : Bool) : (s.setOutv v).finfo = s.finfo := rfl
@[simp] theorem State.setOutv_pc (v : Bool) : (s.setOutv v).pc = s.pc := rfl
@[simp] theorem State.setOutv_params (v : Bool) : (s.setOutv v).params = s.params := rfl
@[simp] theorem State.setOutv_host (v : Bool) : (s.setOutv v).host = s.host := rfl
@[simp] theorem State.setOutv_reply (v : Bool) : (s.setOutv v).reply = s.reply := rfl
@[simp] theorem State.setOutv_draws (v : Bool) : (s.setOutv v).draws = s.draws := rfl
@[simp] theorem State.setOutv_bufByte (v : Bool) (addr : Nat) :
    (s.setOutv v).bufByte addr = s.bufByte addr := rfl
@[simp] theorem State.setOutv_outByte (v : Bool) (addr : Nat) :
    (s.setOutv v).outByte addr = s.outByte addr := rfl
@[simp] theorem State.setOutv_streamOff (v : Bool) : (s.setOutv v).streamOff = s.streamOff := rfl
@[simp] theorem State.setOutv_adlerOff (v : Bool) : (s.setOutv v).adlerOff = s.adlerOff := rfl
@[simp] theorem State.setOutv_bufBytes (v : Bool) (addr len : Nat) :
    (s.setOutv v).bufBytes addr len = s.bufBytes addr len := rfl
@[simp] theorem State.setOutv_memRead (v : Bool) (addr len : Nat) :
    (s.setOutv v).memRead addr len = s.memRead addr len := rfl
@[simp] theorem State.setOutv_srcStream (v : Bool) : (s.setOutv v).srcStream = s.srcStream := rfl
@[simp] theorem State.setOutv_outBytes (v : Bool) (len : Nat) :
    (s.setOutv v).outBytes len = s.outBytes len := rfl

end Sys2Proof.Machine
end

