-- ==== Sys2Proof/Laws/Ops.lean ====
section
/-! SUPPORT. For each shared operation, once, everything it can do: what every byte of `BUF` and
`OUT` reads as after a write, that the canonical form is kept, and what fault entry does. -/

namespace Sys2Proof.Machine

/-! ### Byte sequences -/

@[simp] theorem bytesOf_length (k : Nat) (v : BitVec (8 * k)) : (bytesOf k v).length = k := by
  simp [bytesOf]

theorem bytesOf_getElem (k : Nat) (v : BitVec (8 * k)) (j : Nat) (h : j < (bytesOf k v).length) :
    (bytesOf k v)[j] = v.extractLsb' (8 * (k - 1 - j)) 8 := by
  simp [bytesOf]

@[simp] theorem State.outBytes_length (s : State) (k : Nat) : (s.outBytes k).length = k := by
  simp [State.outBytes]

/-- The bytes of `BUF`, one by one. -/
theorem State.bufAll_eq (s : State) : s.bufAll = (List.range 2444).map s.bufByte := by
  refine List.ext_getElem (by simp [State.bufAll]) fun i h1 h2 => ?_
  have hi : i < 2444 := by simpa using h2
  simp [State.bufAll, State.bufByte, Memory.read, templateByte, hi]

/-- A range inside `BUF`, one byte after another. -/
theorem State.bufBytes_eq (s : State) {a k : Nat} (h : a + k ≤ 2444) :
    s.bufBytes a k = (List.range k).map fun j => s.bufByte (a + j) := by
  refine List.ext_getElem ?_ fun i h1 h2 => ?_
  · simp [State.bufBytes, State.bufAll_eq]
    omega
  · simp [State.bufBytes, State.bufAll_eq]

theorem State.bufBytes_length (s : State) {a k : Nat} (h : a + k ≤ 2444) :
    (s.bufBytes a k).length = k := by
  simp [State.bufBytes_eq s h]

theorem State.bufBytes_getElem (s : State) {a k j : Nat} (h : a + k ≤ 2444)
    (hj : j < (s.bufBytes a k).length) : (s.bufBytes a k)[j] = s.bufByte (a + j) := by
  simp [State.bufBytes_eq s h]

@[simp] theorem State.srcStream_length (s : State) : s.srcStream.length = srcSize := by
  simp [State.srcStream, sig, State.bufBytes_length s (a := 0) (k := 2444) (by omega)]

/-- Two states that read alike over a range inside `BUF` give the same bytes there. -/
theorem State.bufBytes_congr {s t : State} {a k : Nat} (hk : a + k ≤ 2444)
    (h : ∀ x, a ≤ x → x < a + k → s.bufByte x = t.bufByte x) : s.bufBytes a k = t.bufBytes a k := by
  rw [State.bufBytes_eq s hk, State.bufBytes_eq t hk]
  refine List.map_congr_left fun j hj => h _ (by omega) ?_
  have := List.mem_range.1 hj
  omega

theorem State.memRead_congr {s t : State} {a k : Nat}
    (h : ∀ x, a ≤ x → x < a + k → s.bufByte x = t.bufByte x) : s.memRead a k = t.memRead a k := by
  unfold State.memRead
  congr 2
  refine List.map_congr_left fun j hj => h _ (by omega) ?_
  have := List.mem_range.1 hj
  omega

theorem State.srcStream_congr {s t : State} (h : ∀ x, x < 2444 → s.bufByte x = t.bufByte x) :
    s.srcStream = t.srcStream := by
  unfold State.srcStream
  rw [State.bufBytes_congr (s := s) (t := t) (a := 0) (k := 2444) (by omega)
    fun x _ hx => h x (by omega)]

/-! ### Writes to BUF and OUT -/

/-- What any address of `BUF` reads as after a write. -/
theorem State.bufByte_bufWrite (s : State) (a : Nat) (bs : List Byte) (x : Nat) :
    (s.bufWrite a bs).bufByte x =
      if h : a ≤ x ∧ x < a + bs.length then bs[x - a]'(by omega) else s.bufByte x :=
  Memory.read_write _ _ _ _ _

/-- `MemWrite` leaves every byte outside its `k` bytes alone. -/
theorem State.bufByte_memWrite_outside (s : State) (a k : Nat) (v : BitVec (8 * k)) (x : Nat)
    (h : x < a ∨ a + k ≤ x) : (s.memWrite a k v).bufByte x = s.bufByte x := by
  unfold State.memWrite
  rw [State.bufByte_bufWrite, dif_neg]
  simp
  omega

/-- Byte `j` of the field `MemWrite` stores is the `j`-th most significant byte of the value. -/
theorem State.bufByte_memWrite_inside (s : State) (a k : Nat) (v : BitVec (8 * k)) (j : Nat)
    (h : j < k) : (s.memWrite a k v).bufByte (a + j) = v.extractLsb' (8 * (k - 1 - j)) 8 := by
  unfold State.memWrite
  rw [State.bufByte_bufWrite, dif_pos (by simpa using h), bytesOf_getElem]
  simp

/-- What any address of `OUT` reads as after a write. -/
theorem State.outByte_outWrite (s : State) (a : Nat) (bs : List Byte) (x : Nat) :
    (s.outWrite a bs).outByte x =
      if h : a ≤ x ∧ x < a + bs.length then bs[x - a]'(by omega) else s.outByte x :=
  Memory.read_write _ _ _ _ _

theorem State.bufWrite_bufWf {s : State} (hs : s.bufWf) (a : Nat) (bs : List Byte)
    (h : a + bs.length ≤ bufSize) : (s.bufWrite a bs).bufWf :=
  Memory.write_wf hs a bs h

theorem State.memWrite_bufWf {s : State} (hs : s.bufWf) (a k : Nat) (v : BitVec (8 * k))
    (h : a + k ≤ bufSize) : (s.memWrite a k v).bufWf :=
  State.bufWrite_bufWf hs a _ (by simpa using h)

theorem State.outWrite_outWf {s : State} (hs : s.outWf) (a : Nat) (bs : List Byte)
    (h : a + bs.length ≤ outSize) : (s.outWrite a bs).outWf :=
  Memory.write_wf hs a bs h

theorem State.reset_bufWf : State.reset.bufWf := Memory.wf_nil _ _

theorem State.reset_outWf : State.reset.outWf := Memory.wf_nil _ _

/-! ### Where the parameters put the stream and the field -/

/-- The stream lies inside `BUF` for every parameter choice (40_adler32 R97). -/
theorem State.streamOff_inside (s : State) : s.streamOff + 2352 ≤ 2444 := by
  have h : s.streamOff < 93 := s.params.streamOff.isLt
  omega

/-- The Adler-32 field lies inside `BUF` for every parameter choice (40_adler32 R97). -/
theorem State.adlerOff_inside (s : State) : s.adlerOff + 4 ≤ 2444 := by
  have h : s.adlerOff < 2441 := s.params.adlerOff.isLt
  omega

/-! ### Operands -/

/-- The bounds check in words: at least 12 bytes, ending inside `BUF`. -/
theorem chunkInBounds_iff (off len : BitVec 12) :
    chunkInBounds off len = true ↔ 12 ≤ len.toNat ∧ off.toNat + len.toNat ≤ 2444 := by
  simp [chunkInBounds]

/-! ### Fault entry -/

/-- Fault entry in one line: three registers written, the rest of the state as it was. -/
theorem State.raiseFault_eq (s : State) (c : Fault) (w : Word) :
    s.raiseFault c w = { s with faulted := true, fcause := c.code, finfo := w } := rfl

end Sys2Proof.Machine
end

