-- ==== Sys2Proof/Laws/Effects.lean ====
section
/-! SUPPORT. For each command's effect, every field after it, and every byte of the memory it writes.
The lemmas of `patchAdler` and `writeText` are instances of those about a result given as a
variable, so that no proof evaluates a whole computation. -/

namespace Sys2Proof.Machine

variable (s : State)

/-! ### storeAdler -/

@[simp] theorem State.storeAdler_out (r : AdlerRegs) : (s.storeAdler r).out = s.out := rfl
@[simp] theorem State.storeAdler_outlen (r : AdlerRegs) : (s.storeAdler r).outlen = s.outlen := rfl
@[simp] theorem State.storeAdler_tab (r : AdlerRegs) : (s.storeAdler r).tab = s.tab := rfl
@[simp] theorem State.storeAdler_s1 (r : AdlerRegs) : (s.storeAdler r).s1 = r.s1 := rfl
@[simp] theorem State.storeAdler_s2 (r : AdlerRegs) : (s.storeAdler r).s2 = r.s2 := rfl
@[simp] theorem State.storeAdler_n (r : AdlerRegs) : (s.storeAdler r).n = r.n := rfl
@[simp] theorem State.storeAdler_crc (r : AdlerRegs) : (s.storeAdler r).crc = s.crc := rfl
@[simp] theorem State.storeAdler_g (r : AdlerRegs) : (s.storeAdler r).g = s.g := rfl
@[simp] theorem State.storeAdler_cnt (r : AdlerRegs) : (s.storeAdler r).cnt = s.cnt := rfl
@[simp] theorem State.storeAdler_ptr (r : AdlerRegs) :
    (s.storeAdler r).ptr = BitVec.ofNat 12 (s.streamOff + streamLen) := rfl
@[simp] theorem State.storeAdler_optr (r : AdlerRegs) : (s.storeAdler r).optr = s.optr := rfl
@[simp] theorem State.storeAdler_tabv (r : AdlerRegs) : (s.storeAdler r).tabv = s.tabv := rfl
@[simp] theorem State.storeAdler_faulted (r : AdlerRegs) :
    (s.storeAdler r).faulted = s.faulted := rfl
@[simp] theorem State.storeAdler_outv (r : AdlerRegs) : (s.storeAdler r).outv = s.outv := rfl
@[simp] theorem State.storeAdler_fcause (r : AdlerRegs) : (s.storeAdler r).fcause = s.fcause := rfl
@[simp] theorem State.storeAdler_finfo (r : AdlerRegs) : (s.storeAdler r).finfo = s.finfo := rfl
@[simp] theorem State.storeAdler_pc (r : AdlerRegs) : (s.storeAdler r).pc = s.pc := rfl
@[simp] theorem State.storeAdler_params (r : AdlerRegs) : (s.storeAdler r).params = s.params := rfl
@[simp] theorem State.storeAdler_host (r : AdlerRegs) : (s.storeAdler r).host = s.host := rfl
@[simp] theorem State.storeAdler_reply (r : AdlerRegs) : (s.storeAdler r).reply = s.reply := rfl
@[simp] theorem State.storeAdler_draws (r : AdlerRegs) : (s.storeAdler r).draws = s.draws := rfl
@[simp] theorem State.storeAdler_streamOff (r : AdlerRegs) :
    (s.storeAdler r).streamOff = s.streamOff := rfl
@[simp] theorem State.storeAdler_adlerOff (r : AdlerRegs) :
    (s.storeAdler r).adlerOff = s.adlerOff := rfl
@[simp] theorem State.storeAdler_outByte (r : AdlerRegs) (x : Nat) :
    (s.storeAdler r).outByte x = s.outByte x := rfl
@[simp] theorem State.storeAdler_outBytes (r : AdlerRegs) (k : Nat) :
    (s.storeAdler r).outBytes k = s.outBytes k := rfl

/-! ### patchAdler -/

@[simp] theorem State.patchAdler_out : s.patchAdler.out = s.out := State.storeAdler_out s _
@[simp] theorem State.patchAdler_outlen :
    s.patchAdler.outlen = s.outlen := State.storeAdler_outlen s _
@[simp] theorem State.patchAdler_tab : s.patchAdler.tab = s.tab := State.storeAdler_tab s _
@[simp] theorem State.patchAdler_s1 :
    s.patchAdler.s1 = (adlerRun s.stream).s1 := State.storeAdler_s1 s _
@[simp] theorem State.patchAdler_s2 :
    s.patchAdler.s2 = (adlerRun s.stream).s2 := State.storeAdler_s2 s _
@[simp] theorem State.patchAdler_n :
    s.patchAdler.n = (adlerRun s.stream).n := State.storeAdler_n s _
@[simp] theorem State.patchAdler_crc : s.patchAdler.crc = s.crc := State.storeAdler_crc s _
@[simp] theorem State.patchAdler_g : s.patchAdler.g = s.g := State.storeAdler_g s _
@[simp] theorem State.patchAdler_cnt : s.patchAdler.cnt = s.cnt := State.storeAdler_cnt s _
@[simp] theorem State.patchAdler_ptr :
    s.patchAdler.ptr = BitVec.ofNat 12 (s.streamOff + streamLen) := State.storeAdler_ptr s _
@[simp] theorem State.patchAdler_optr : s.patchAdler.optr = s.optr := State.storeAdler_optr s _
@[simp] theorem State.patchAdler_tabv : s.patchAdler.tabv = s.tabv := State.storeAdler_tabv s _
@[simp] theorem State.patchAdler_faulted :
    s.patchAdler.faulted = s.faulted := State.storeAdler_faulted s _
@[simp] theorem State.patchAdler_outv : s.patchAdler.outv = s.outv := State.storeAdler_outv s _
@[simp] theorem State.patchAdler_fcause :
    s.patchAdler.fcause = s.fcause := State.storeAdler_fcause s _
@[simp] theorem State.patchAdler_finfo : s.patchAdler.finfo = s.finfo := State.storeAdler_finfo s _
@[simp] theorem State.patchAdler_pc : s.patchAdler.pc = s.pc := State.storeAdler_pc s _
@[simp] theorem State.patchAdler_params :
    s.patchAdler.params = s.params := State.storeAdler_params s _
@[simp] theorem State.patchAdler_host : s.patchAdler.host = s.host := State.storeAdler_host s _
@[simp] theorem State.patchAdler_reply : s.patchAdler.reply = s.reply := State.storeAdler_reply s _
@[simp] theorem State.patchAdler_draws : s.patchAdler.draws = s.draws := State.storeAdler_draws s _
@[simp] theorem State.patchAdler_streamOff :
    s.patchAdler.streamOff = s.streamOff := State.storeAdler_streamOff s _
@[simp] theorem State.patchAdler_adlerOff :
    s.patchAdler.adlerOff = s.adlerOff := State.storeAdler_adlerOff s _
@[simp] theorem State.patchAdler_outByte (x : Nat) :
    s.patchAdler.outByte x = s.outByte x := State.storeAdler_outByte s _ x
@[simp] theorem State.patchAdler_outBytes (k : Nat) :
    s.patchAdler.outBytes k = s.outBytes k := State.storeAdler_outBytes s _ k

/-! ### buildTable -/

@[simp] theorem State.buildTable_buf : s.buildTable.buf = s.buf := rfl
@[simp] theorem State.buildTable_out : s.buildTable.out = s.out := rfl
@[simp] theorem State.buildTable_outlen : s.buildTable.outlen = s.outlen := rfl
@[simp] theorem State.buildTable_tab : s.buildTable.tab = crcTable := rfl
@[simp] theorem State.buildTable_s1 : s.buildTable.s1 = s.s1 := rfl
@[simp] theorem State.buildTable_s2 : s.buildTable.s2 = s.s2 := rfl
@[simp] theorem State.buildTable_n : s.buildTable.n = s.n := rfl
@[simp] theorem State.buildTable_crc : s.buildTable.crc = Config.freeWord s.draws := rfl
@[simp] theorem State.buildTable_g : s.buildTable.g = s.g := rfl
@[simp] theorem State.buildTable_cnt : s.buildTable.cnt = s.cnt := rfl
@[simp] theorem State.buildTable_ptr : s.buildTable.ptr = s.ptr := rfl
@[simp] theorem State.buildTable_optr : s.buildTable.optr = s.optr := rfl
@[simp] theorem State.buildTable_tabv : s.buildTable.tabv = true := rfl
@[simp] theorem State.buildTable_faulted : s.buildTable.faulted = s.faulted := rfl
@[simp] theorem State.buildTable_outv : s.buildTable.outv = s.outv := rfl
@[simp] theorem State.buildTable_fcause : s.buildTable.fcause = s.fcause := rfl
@[simp] theorem State.buildTable_finfo : s.buildTable.finfo = s.finfo := rfl
@[simp] theorem State.buildTable_pc : s.buildTable.pc = s.pc := rfl
@[simp] theorem State.buildTable_params : s.buildTable.params = s.params := rfl
@[simp] theorem State.buildTable_host : s.buildTable.host = s.host := rfl
@[simp] theorem State.buildTable_reply : s.buildTable.reply = s.reply := rfl
@[simp] theorem State.buildTable_draws : s.buildTable.draws = s.draws + 1 := rfl
@[simp] theorem State.buildTable_streamOff : s.buildTable.streamOff = s.streamOff := rfl
@[simp] theorem State.buildTable_adlerOff : s.buildTable.adlerOff = s.adlerOff := rfl
@[simp] theorem State.buildTable_bufByte (x : Nat) : s.buildTable.bufByte x = s.bufByte x := rfl
@[simp] theorem State.buildTable_bufBytes (x k : Nat) :
    s.buildTable.bufBytes x k = s.bufBytes x k := rfl
@[simp] theorem State.buildTable_memRead (x k : Nat) :
    s.buildTable.memRead x k = s.memRead x k := rfl
@[simp] theorem State.buildTable_srcStream : s.buildTable.srcStream = s.srcStream := rfl
@[simp] theorem State.buildTable_outByte (x : Nat) : s.buildTable.outByte x = s.outByte x := rfl
@[simp] theorem State.buildTable_outBytes (k : Nat) : s.buildTable.outBytes k = s.outBytes k := rfl

/-! ### patchCrc -/

@[simp] theorem State.patchCrc_out (off len : BitVec 12) : (s.patchCrc off len).out = s.out := rfl
@[simp] theorem State.patchCrc_outlen (off len : BitVec 12) :
    (s.patchCrc off len).outlen = s.outlen := rfl
@[simp] theorem State.patchCrc_tab (off len : BitVec 12) : (s.patchCrc off len).tab = s.tab := rfl
@[simp] theorem State.patchCrc_s1 (off len : BitVec 12) : (s.patchCrc off len).s1 = s.s1 := rfl
@[simp] theorem State.patchCrc_s2 (off len : BitVec 12) : (s.patchCrc off len).s2 = s.s2 := rfl
@[simp] theorem State.patchCrc_n (off len : BitVec 12) : (s.patchCrc off len).n = s.n := rfl
@[simp] theorem State.patchCrc_crc (off len : BitVec 12) :
    (s.patchCrc off len).crc = crcRun s.tab (s.coveredBytes off len) := rfl
@[simp] theorem State.patchCrc_g (off len : BitVec 12) : (s.patchCrc off len).g = s.g := rfl
@[simp] theorem State.patchCrc_cnt (off len : BitVec 12) : (s.patchCrc off len).cnt = s.cnt := rfl
@[simp] theorem State.patchCrc_ptr (off len : BitVec 12) :
    (s.patchCrc off len).ptr = BitVec.ofNat 12 (trailerAddr off len) := rfl
@[simp] theorem State.patchCrc_optr (off len : BitVec 12) :
    (s.patchCrc off len).optr = s.optr := rfl
@[simp] theorem State.patchCrc_tabv (off len : BitVec 12) :
    (s.patchCrc off len).tabv = s.tabv := rfl
@[simp] theorem State.patchCrc_faulted (off len : BitVec 12) :
    (s.patchCrc off len).faulted = s.faulted := rfl
@[simp] theorem State.patchCrc_outv (off len : BitVec 12) :
    (s.patchCrc off len).outv = s.outv := rfl
@[simp] theorem State.patchCrc_fcause (off len : BitVec 12) :
    (s.patchCrc off len).fcause = s.fcause := rfl
@[simp] theorem State.patchCrc_finfo (off len : BitVec 12) :
    (s.patchCrc off len).finfo = s.finfo := rfl
@[simp] theorem State.patchCrc_pc (off len : BitVec 12) : (s.patchCrc off len).pc = s.pc := rfl
@[simp] theorem State.patchCrc_params (off len : BitVec 12) :
    (s.patchCrc off len).params = s.params := rfl
@[simp] theorem State.patchCrc_host (off len : BitVec 12) :
    (s.patchCrc off len).host = s.host := rfl
@[simp] theorem State.patchCrc_reply (off len : BitVec 12) :
    (s.patchCrc off len).reply = s.reply := rfl
@[simp] theorem State.patchCrc_draws (off len : BitVec 12) :
    (s.patchCrc off len).draws = s.draws := rfl
@[simp] theorem State.patchCrc_streamOff (off len : BitVec 12) :
    (s.patchCrc off len).streamOff = s.streamOff := rfl
@[simp] theorem State.patchCrc_adlerOff (off len : BitVec 12) :
    (s.patchCrc off len).adlerOff = s.adlerOff := rfl
@[simp] theorem State.patchCrc_outByte (off len : BitVec 12) (x : Nat) :
    (s.patchCrc off len).outByte x = s.outByte x := rfl
@[simp] theorem State.patchCrc_outBytes (off len : BitVec 12) (k : Nat) :
    (s.patchCrc off len).outBytes k = s.outBytes k := rfl

/-! ### storeText -/

@[simp] theorem State.storeText_buf (r : B64Regs × List Byte) : (s.storeText r).buf = s.buf := rfl
@[simp] theorem State.storeText_outlen (r : B64Regs × List Byte) :
    (s.storeText r).outlen = r.1.optr := rfl
@[simp] theorem State.storeText_tab (r : B64Regs × List Byte) : (s.storeText r).tab = s.tab := rfl
@[simp] theorem State.storeText_s1 (r : B64Regs × List Byte) : (s.storeText r).s1 = s.s1 := rfl
@[simp] theorem State.storeText_s2 (r : B64Regs × List Byte) : (s.storeText r).s2 = s.s2 := rfl
@[simp] theorem State.storeText_n (r : B64Regs × List Byte) : (s.storeText r).n = s.n := rfl
@[simp] theorem State.storeText_crc (r : B64Regs × List Byte) : (s.storeText r).crc = s.crc := rfl
@[simp] theorem State.storeText_g (r : B64Regs × List Byte) : (s.storeText r).g = r.1.g := rfl
@[simp] theorem State.storeText_cnt (r : B64Regs × List Byte) : (s.storeText r).cnt = r.1.cnt := rfl
@[simp] theorem State.storeText_ptr (r : B64Regs × List Byte) :
    (s.storeText r).ptr = BitVec.ofNat 12 srcSize := rfl
@[simp] theorem State.storeText_optr (r : B64Regs × List Byte) :
    (s.storeText r).optr = r.1.optr := rfl
@[simp] theorem State.storeText_tabv (r : B64Regs × List Byte) :
    (s.storeText r).tabv = s.tabv := rfl
@[simp] theorem State.storeText_faulted (r : B64Regs × List Byte) :
    (s.storeText r).faulted = s.faulted := rfl
@[simp] theorem State.storeText_outv (r : B64Regs × List Byte) : (s.storeText r).outv = true := rfl
@[simp] theorem State.storeText_fcause (r : B64Regs × List Byte) :
    (s.storeText r).fcause = s.fcause := rfl
@[simp] theorem State.storeText_finfo (r : B64Regs × List Byte) :
    (s.storeText r).finfo = s.finfo := rfl
@[simp] theorem State.storeText_pc (r : B64Regs × List Byte) : (s.storeText r).pc = s.pc := rfl
@[simp] theorem State.storeText_params (r : B64Regs × List Byte) :
    (s.storeText r).params = s.params := rfl
@[simp] theorem State.storeText_host (r : B64Regs × List Byte) :
    (s.storeText r).host = s.host := rfl
@[simp] theorem State.storeText_reply (r : B64Regs × List Byte) :
    (s.storeText r).reply = s.reply := rfl
@[simp] theorem State.storeText_draws (r : B64Regs × List Byte) :
    (s.storeText r).draws = s.draws := rfl
@[simp] theorem State.storeText_streamOff (r : B64Regs × List Byte) :
    (s.storeText r).streamOff = s.streamOff := rfl
@[simp] theorem State.storeText_adlerOff (r : B64Regs × List Byte) :
    (s.storeText r).adlerOff = s.adlerOff := rfl
@[simp] theorem State.storeText_bufByte (r : B64Regs × List Byte) (x : Nat) :
    (s.storeText r).bufByte x = s.bufByte x := rfl
@[simp] theorem State.storeText_bufBytes (r : B64Regs × List Byte) (x k : Nat) :
    (s.storeText r).bufBytes x k = s.bufBytes x k := rfl
@[simp] theorem State.storeText_memRead (r : B64Regs × List Byte) (x k : Nat) :
    (s.storeText r).memRead x k = s.memRead x k := rfl
@[simp] theorem State.storeText_srcStream (r : B64Regs × List Byte) :
    (s.storeText r).srcStream = s.srcStream := rfl

/-! ### writeText -/

@[simp] theorem State.writeText_buf : s.writeText.buf = s.buf := State.storeText_buf s _
@[simp] theorem State.writeText_outlen :
    s.writeText.outlen = (b64Run s.srcStream).1.optr := State.storeText_outlen s _
@[simp] theorem State.writeText_tab : s.writeText.tab = s.tab := State.storeText_tab s _
@[simp] theorem State.writeText_s1 : s.writeText.s1 = s.s1 := State.storeText_s1 s _
@[simp] theorem State.writeText_s2 : s.writeText.s2 = s.s2 := State.storeText_s2 s _
@[simp] theorem State.writeText_n : s.writeText.n = s.n := State.storeText_n s _
@[simp] theorem State.writeText_crc : s.writeText.crc = s.crc := State.storeText_crc s _
@[simp] theorem State.writeText_g :
    s.writeText.g = (b64Run s.srcStream).1.g := State.storeText_g s _
@[simp] theorem State.writeText_cnt :
    s.writeText.cnt = (b64Run s.srcStream).1.cnt := State.storeText_cnt s _
@[simp] theorem State.writeText_ptr :
    s.writeText.ptr = BitVec.ofNat 12 srcSize := State.storeText_ptr s _
@[simp] theorem State.writeText_optr :
    s.writeText.optr = (b64Run s.srcStream).1.optr := State.storeText_optr s _
@[simp] theorem State.writeText_tabv : s.writeText.tabv = s.tabv := State.storeText_tabv s _
@[simp] theorem State.writeText_faulted :
    s.writeText.faulted = s.faulted := State.storeText_faulted s _
@[simp] theorem State.writeText_outv : s.writeText.outv = true := State.storeText_outv s _
@[simp] theorem State.writeText_fcause : s.writeText.fcause = s.fcause := State.storeText_fcause s _
@[simp] theorem State.writeText_finfo : s.writeText.finfo = s.finfo := State.storeText_finfo s _
@[simp] theorem State.writeText_pc : s.writeText.pc = s.pc := State.storeText_pc s _
@[simp] theorem State.writeText_params : s.writeText.params = s.params := State.storeText_params s _
@[simp] theorem State.writeText_host : s.writeText.host = s.host := State.storeText_host s _
@[simp] theorem State.writeText_reply : s.writeText.reply = s.reply := State.storeText_reply s _
@[simp] theorem State.writeText_draws : s.writeText.draws = s.draws := State.storeText_draws s _
@[simp] theorem State.writeText_streamOff :
    s.writeText.streamOff = s.streamOff := State.storeText_streamOff s _
@[simp] theorem State.writeText_adlerOff :
    s.writeText.adlerOff = s.adlerOff := State.storeText_adlerOff s _
@[simp] theorem State.writeText_bufByte (x : Nat) :
    s.writeText.bufByte x = s.bufByte x := State.storeText_bufByte s _ x
@[simp] theorem State.writeText_bufBytes (x k : Nat) :
    s.writeText.bufBytes x k = s.bufBytes x k := State.storeText_bufBytes s _ x k
@[simp] theorem State.writeText_memRead (x k : Nat) :
    s.writeText.memRead x k = s.memRead x k := State.storeText_memRead s _ x k
@[simp] theorem State.writeText_srcStream :
    s.writeText.srcStream = s.srcStream := State.storeText_srcStream s _

/-! ### The memory each writes -/

/-- ADLER32 leaves every byte outside its field alone. -/
theorem State.patchAdler_bufByte_outside (x : Nat) (h : x < s.adlerOff ∨ s.adlerOff + 4 ≤ x) :
    s.patchAdler.bufByte x = s.bufByte x := by
  unfold State.patchAdler State.storeAdler
  rw [State.setAdler_bufByte, State.bufByte_memWrite_outside _ _ 4 _ x h]

/-- Byte `j` of the Adler-32 field. -/
theorem State.patchAdler_bufByte_inside (j : Nat) (h : j < 4) :
    s.patchAdler.bufByte (s.adlerOff + j) =
      (adlerWord (adlerRun s.stream)).extractLsb' (8 * (4 - 1 - j)) 8 := by
  unfold State.patchAdler State.storeAdler
  rw [State.setAdler_bufByte, State.bufByte_memWrite_inside _ _ 4 _ j h]

/-- The Adler-32 field lies inside `BUF`, so the canonical form is kept. -/
theorem State.patchAdler_bufWf {s : State} (hs : s.bufWf) : s.patchAdler.bufWf := by
  have h := s.adlerOff_inside
  have hw : ∀ r, (s.storeAdler r).bufWf := fun r =>
    State.memWrite_bufWf hs s.adlerOff 4 (adlerWord r) (by unfold bufSize; omega)
  exact hw _

/-- A CRC32 leaves every byte outside its trailer alone. -/
theorem State.patchCrc_bufByte_outside (off len : BitVec 12) (x : Nat)
    (h : x < trailerAddr off len ∨ trailerAddr off len + 4 ≤ x) :
    (s.patchCrc off len).bufByte x = s.bufByte x := by
  unfold State.patchCrc
  rw [State.setCrc_bufByte, State.bufByte_memWrite_outside _ _ 4 _ x h]

/-- Byte `j` of the trailer. -/
theorem State.patchCrc_bufByte_inside (off len : BitVec 12) (j : Nat) (h : j < 4) :
    (s.patchCrc off len).bufByte (trailerAddr off len + j) =
      (crcRun s.tab (s.coveredBytes off len) ^^^ crcOnes).extractLsb' (8 * (4 - 1 - j)) 8 := by
  unfold State.patchCrc
  exact State.bufByte_memWrite_inside _ _ 4 _ j h

/-- The trailer of a chunk in bounds lies inside `BUF`, so the canonical form is kept. -/
theorem State.patchCrc_bufWf {s : State} (hs : s.bufWf) {off len : BitVec 12}
    (h : chunkInBounds off len = true) : (s.patchCrc off len).bufWf := by
  rw [chunkInBounds_iff] at h
  unfold State.patchCrc
  refine State.memWrite_bufWf hs _ 4 _ ?_
  unfold trailerAddr bufSize
  omega

/-- Character `j` of `OUT` after B64ENC. -/
theorem State.writeText_outByte (j : Nat) :
    s.writeText.outByte j =
      if h : j < (b64Run s.srcStream).2.length then (b64Run s.srcStream).2[j] else s.outByte j := by
  have hw : ∀ r : B64Regs × List Byte, (s.storeText r).outByte j =
      if h : j < r.2.length then r.2[j] else s.outByte j := by
    intro r
    unfold State.storeText
    simp [State.outByte_outWrite]
  exact hw _

end Sys2Proof.Machine
end

