-- ==== Sys2Proof/Laws/Exec.lean ====
section
/-! SUPPORT. Inversion lemmas: once for each meaning, each host action and the step, everything it
can do. -/

namespace Sys2Proof.Machine

/-! ### The commands -/

theorem exec_adler32 (s : State) : exec .adler32 s = .next s.patchAdler.complete := rfl

theorem exec_crcinit (s : State) : exec .crcinit s = .next s.buildTable.complete := rfl

theorem exec_b64enc (s : State) : exec .b64enc s = .next s.writeText.complete := rfl

theorem exec_crc32_noTable {s : State} (off len : BitVec 12) (h : s.tabv = false) :
    exec (.crc32 off len) s = .next (s.raiseFault .tableNotBuilt (encode (.crc32 off len))) := by
  simp [exec, execCrc32, h]

theorem exec_crc32_outside {s : State} {off len : BitVec 12} (h : s.tabv = true)
    (hb : chunkInBounds off len = false) :
    exec (.crc32 off len) s = .next (s.raiseFault .boundsFault (encode (.crc32 off len))) := by
  simp [exec, execCrc32, h, hb]

theorem exec_crc32_inside {s : State} {off len : BitVec 12} (h : s.tabv = true)
    (hb : chunkInBounds off len = true) :
    exec (.crc32 off len) s = .next (s.patchCrc off len).complete := by
  simp [exec, execCrc32, h, hb]

/-- Every command answers a next state, from every state. -/
theorem exec_next (i : Instr) (s : State) : ∃ t, exec i s = .next t := by
  cases i with
  | adler32 => exact ⟨_, rfl⟩
  | crcinit => exact ⟨_, rfl⟩
  | b64enc => exact ⟨_, rfl⟩
  | crc32 off len =>
    cases h : s.tabv
    · exact ⟨_, exec_crc32_noTable off len h⟩
    · cases hb : chunkInBounds off len
      · exact ⟨_, exec_crc32_outside h hb⟩
      · exact ⟨_, exec_crc32_inside h hb⟩

/-- What a CRC32 can do: one of its two faults, or the patch. -/
theorem exec_crc32_cases {s t : State} {off len : BitVec 12} (h : exec (.crc32 off len) s = .next t) :
    (s.tabv = false ∧ t = s.raiseFault .tableNotBuilt (encode (.crc32 off len))) ∨
    (s.tabv = true ∧ chunkInBounds off len = false ∧
      t = s.raiseFault .boundsFault (encode (.crc32 off len))) ∨
    (s.tabv = true ∧ chunkInBounds off len = true ∧ t = (s.patchCrc off len).complete) := by
  cases htab : s.tabv
  · rw [exec_crc32_noTable off len htab] at h
    cases h
    exact .inl ⟨rfl, rfl⟩
  · cases hb : chunkInBounds off len
    · rw [exec_crc32_outside htab hb] at h
      cases h
      exact .inr (.inl ⟨rfl, rfl, rfl⟩)
    · rw [exec_crc32_inside htab hb] at h
      cases h
      exact .inr (.inr ⟨rfl, rfl, rfl⟩)

/-! ### The host's actions -/

/-- Issue: ignored, illegal, or the decoded command. -/
theorem hostIssue_cases {w : Word} {s t : State} (h : hostIssue w s = .next t) :
    (s.faulted = true ∧ t = s.answer .returned) ∨
    (s.faulted = false ∧ ∃ why, decode w = .illegal why ∧
      t = (s.answer .returned).raiseFault .illegalCommand w) ∨
    (s.faulted = false ∧ ∃ i, decode w = .command i ∧ exec i (s.answer .returned) = .next t) := by
  unfold hostIssue at h
  cases hf : s.faulted
  · rw [hf] at h
    cases hd : decode w with
    | illegal why =>
      rw [hd] at h
      cases h
      exact .inr (.inl ⟨rfl, why, rfl, rfl⟩)
    | command i =>
      rw [hd] at h
      exact .inr (.inr ⟨rfl, i, rfl, h⟩)
  · rw [hf] at h
    cases h
    exact .inl ⟨rfl, rfl⟩

/-- Issue always answers a next state. -/
theorem hostIssue_next (w : Word) (s : State) : ∃ t, hostIssue w s = .next t := by
  unfold hostIssue
  split
  · exact ⟨_, rfl⟩
  · split
    · exact ⟨_, rfl⟩
    · exact exec_next _ _

/-- What an action other than Issue can do when it answers a next state. -/
theorem perform_cases {act : HostAction} {s t : State} (h : perform act s = .next t) :
    (act = .reset ∧
      t = { State.reset with params := s.params, host := s.host, draws := s.draws }) ∨
    (∃ a v, act = .writeBuf a v ∧ a < bufSize ∧ t = (s.bufWrite a [v]).answer .nothing) ∨
    (∃ a, act = .readBuf a ∧ a < bufSize ∧ t = s.answer (.byte (s.bufByte a))) ∨
    (∃ i, act = .readOut i ∧ i < s.outlen.toNat ∧ i < outSize ∧
      t = s.answer (.byte (s.outByte i))) ∨
    (∃ i, act = .readOut i ∧ s.outlen.toNat ≤ i ∧ i < outSize ∧ t = s.answerFree) ∨
    (act = .readStatus ∧ t = s.answer (.status s.statusWord s.fcause s.finfo s.outlen)) ∨
    (∃ w, act = .issue w ∧ hostIssue w s = .next t) := by
  cases act with
  | reset => cases h; exact .inl ⟨rfl, rfl⟩
  | writeBuf a v =>
    simp only [perform, hostWriteBuf] at h
    split at h
    · cases h; exact .inr (.inl ⟨a, v, rfl, ‹_›, rfl⟩)
    · cases h
  | readBuf a =>
    simp only [perform, hostReadBuf] at h
    split at h
    · cases h; exact .inr (.inr (.inl ⟨a, rfl, ‹_›, rfl⟩))
    · cases h
  | issue w => exact .inr (.inr (.inr (.inr (.inr (.inr ⟨w, rfl, h⟩)))))
  | readOut i =>
    simp only [perform, hostReadOut] at h
    split at h
    · split at h
      · cases h; exact .inr (.inr (.inr (.inl ⟨i, rfl, ‹_›, ‹_›, rfl⟩)))
      · cases h; exact .inr (.inr (.inr (.inr (.inl ⟨i, rfl, by omega, ‹_›, rfl⟩))))
    · cases h
  | readStatus => cases h; exact .inr (.inr (.inr (.inr (.inr (.inl ⟨rfl, rfl⟩)))))

/-! ### The step -/

theorem step_idle {s : State} (h : s.host = []) : step s = .next s := by
  simp [step, hostTurn, h]

theorem step_action {s : State} {act : HostAction} {rest : List HostAction}
    (h : s.host = act :: rest) : step s = perform act (s.setHost rest) := by
  simp [step, hostTurn, h]

/-- What a step can do: nothing while the host has nothing pending, else the oldest action. -/
theorem step_cases {s t : State} (h : step s = .next t) :
    (s.host = [] ∧ t = s) ∨
    (∃ act rest, s.host = act :: rest ∧ perform act (s.setHost rest) = .next t) := by
  cases hh : s.host with
  | nil =>
    rw [step_idle hh] at h
    cases h
    exact .inl ⟨rfl, rfl⟩
  | cons act rest =>
    rw [step_action hh] at h
    exact .inr ⟨act, rest, rfl, h⟩

/-- Everything one step that answers a next state can be, with that state: one constructor per host
action and outcome, one per command and outcome. -/
inductive StepKind (s : State) : State → Prop where
  | idle (h : s.host = []) : StepKind s s
  | reset (rest : List HostAction) (h : s.host = .reset :: rest) :
      StepKind s { State.reset with params := s.params, host := rest, draws := s.draws }
  | writeBuf (a : Nat) (v : Byte) (rest : List HostAction) (h : s.host = .writeBuf a v :: rest)
      (ha : a < 2444) : StepKind s (((s.setHost rest).bufWrite a [v]).answer .nothing)
  | readBuf (a : Nat) (rest : List HostAction) (h : s.host = .readBuf a :: rest) (ha : a < 2444) :
      StepKind s ((s.setHost rest).answer (.byte (s.bufByte a)))
  | readOut (i : Nat) (rest : List HostAction) (h : s.host = .readOut i :: rest) (hi : i < 3272)
      (hl : i < s.outlen.toNat) : StepKind s ((s.setHost rest).answer (.byte (s.outByte i)))
  | readOutFree (i : Nat) (rest : List HostAction) (h : s.host = .readOut i :: rest)
      (hi : i < 3272) (hl : s.outlen.toNat ≤ i) : StepKind s (s.setHost rest).answerFree
  | readStatus (rest : List HostAction) (h : s.host = .readStatus :: rest) :
      StepKind s ((s.setHost rest).answer (.status s.statusWord s.fcause s.finfo s.outlen))
  | ignored (w : Word) (rest : List HostAction) (h : s.host = .issue w :: rest)
      (hf : s.faulted = true) : StepKind s ((s.setHost rest).answer .returned)
  | illegal (w : Word) (rest : List HostAction) (h : s.host = .issue w :: rest)
      (hf : s.faulted = false) (why : Illegal) (hd : decode w = .illegal why) :
      StepKind s (((s.setHost rest).answer .returned).raiseFault .illegalCommand w)
  | adler32 (w : Word) (rest : List HostAction) (h : s.host = .issue w :: rest)
      (hf : s.faulted = false) (hd : decode w = .command .adler32) :
      StepKind s ((s.setHost rest).answer .returned).patchAdler.complete
  | crcinit (w : Word) (rest : List HostAction) (h : s.host = .issue w :: rest)
      (hf : s.faulted = false) (hd : decode w = .command .crcinit) :
      StepKind s ((s.setHost rest).answer .returned).buildTable.complete
  | noTable (w : Word) (rest : List HostAction) (h : s.host = .issue w :: rest)
      (hf : s.faulted = false) (off len : BitVec 12) (hd : decode w = .command (.crc32 off len))
      (ht : s.tabv = false) :
      StepKind s (((s.setHost rest).answer .returned).raiseFault .tableNotBuilt
        (encode (.crc32 off len)))
  | outside (w : Word) (rest : List HostAction) (h : s.host = .issue w :: rest)
      (hf : s.faulted = false) (off len : BitVec 12) (hd : decode w = .command (.crc32 off len))
      (ht : s.tabv = true) (hb : chunkInBounds off len = false) :
      StepKind s (((s.setHost rest).answer .returned).raiseFault .boundsFault
        (encode (.crc32 off len)))
  | crc32 (w : Word) (rest : List HostAction) (h : s.host = .issue w :: rest)
      (hf : s.faulted = false) (off len : BitVec 12) (hd : decode w = .command (.crc32 off len))
      (ht : s.tabv = true) (hb : chunkInBounds off len = true) :
      StepKind s (((s.setHost rest).answer .returned).patchCrc off len).complete
  | b64enc (w : Word) (rest : List HostAction) (h : s.host = .issue w :: rest)
      (hf : s.faulted = false) (hd : decode w = .command .b64enc) :
      StepKind s ((s.setHost rest).answer .returned).writeText.complete

/-- The inversion lemma of `step`: the one place where the step is taken apart. -/
theorem step_kind {s t : State} (h : step s = .next t) : StepKind s t := by
  rcases step_cases h with ⟨hh, rfl⟩ | ⟨act, rest, hh, hp⟩
  · exact .idle hh
  · rcases perform_cases hp with ⟨rfl, rfl⟩ | ⟨a, v, rfl, ha, rfl⟩ | ⟨a, rfl, ha, rfl⟩ |
      ⟨i, rfl, hl, hi, rfl⟩ | ⟨i, rfl, hl, hi, rfl⟩ | ⟨rfl, rfl⟩ | ⟨w, rfl, hw⟩
    · exact .reset rest hh
    · exact .writeBuf a v rest hh ha
    · exact .readBuf a rest hh ha
    · exact .readOut i rest hh hi hl
    · exact .readOutFree i rest hh hi hl
    · exact .readStatus rest hh
    · rcases hostIssue_cases hw with ⟨hf, rfl⟩ | ⟨hf, why, hd, rfl⟩ | ⟨hf, i, hd, he⟩
      · exact .ignored w rest hh hf
      · exact .illegal w rest hh hf why hd
      · cases i with
        | adler32 => rw [exec_adler32] at he; cases he; exact .adler32 w rest hh hf hd
        | crcinit => rw [exec_crcinit] at he; cases he; exact .crcinit w rest hh hf hd
        | b64enc => rw [exec_b64enc] at he; cases he; exact .b64enc w rest hh hf hd
        | crc32 off len =>
          rcases exec_crc32_cases he with ⟨ht, rfl⟩ | ⟨ht, hb, rfl⟩ | ⟨ht, hb, rfl⟩
          · exact .noTable w rest hh hf off len hd ht
          · exact .outside w rest hh hf off len hd ht hb
          · exact .crc32 w rest hh hf off len hd ht hb

end Sys2Proof.Machine
end

