-- ==== Sys2Proof/Laws/PerInstr.lean ====
section
/-! SUPPORT. Statements made for every command as syntax: the word of a command selects its own row
of the opcode map (30_encoding R73: `w & mask = match`). -/

namespace Sys2Proof.Laws.RowSelected

/-- The mask of a command's row (30_encoding R73). -/
def mask : Instr → Word
  | .adler32 => 0xFFFFFFFF
  | .crcinit => 0xFFFFFFFF
  | .crc32 _ _ => 0xFF000000
  | .b64enc => 0xFFFFFFFF

/-- The match of a command's row (30_encoding R73). -/
def pattern : Instr → Word
  | .adler32 => 0x01000000
  | .crcinit => 0x02000000
  | .crc32 _ _ => 0x03000000
  | .b64enc => 0x04000000

/-- The word of `i` selects the row of `i`. -/
def Statement (i : Instr) : Prop := encode i &&& mask i = pattern i

theorem adler32 : Statement .adler32 := by unfold Statement; decide

theorem crcinit : Statement .crcinit := by unfold Statement; decide

theorem crc32 (off len : BitVec 12) : Statement (.crc32 off len) := by
  show (0x03#8 ++ off ++ len : BitVec 32) &&& 0xFF000000#32 = 0x03000000#32
  ext j hj
  simp only [BitVec.getElem_and, BitVec.getElem_append]
  interval_cases j <;> simp

theorem b64enc : Statement .b64enc := by unfold Statement; decide

end Sys2Proof.Laws.RowSelected
end

