-- ==== Sys2Proof/Tests/Slice0.lean ====
section
/-! SUPPORT. Tests: what WellFormed refuses, words written out from 30_encoding, the vectors of
95_test_vectors on the units and on one command each, and for every obligation with hypotheses a
`witness_…` that meets them. -/

namespace Sys2Proof.Tests

open Sys2Proof.Machine

/-! ### Well-formedness (30_encoding R77) -/

theorem test_wf_accepts : SourceLine.wellFormed ⟨.crc32, [57, 2375]⟩ = true := by decide

theorem test_wf_accepts_largest_operands : SourceLine.wellFormed ⟨.crc32, [4095, 4095]⟩ = true := by
  decide

theorem test_wf_refuses_one_operand : SourceLine.wellFormed ⟨.crc32, [57]⟩ = false := by decide

theorem test_wf_refuses_three_operands : SourceLine.wellFormed ⟨.crc32, [57, 12, 1]⟩ = false := by
  decide

theorem test_wf_refuses_operand_of_adler32 : SourceLine.wellFormed ⟨.adler32, [1]⟩ = false := by
  decide

theorem test_wf_refuses_operand_of_pseudo : SourceLine.wellFormed ⟨.crcIend, [12]⟩ = false := by
  decide

theorem test_wf_refuses_wide_off : SourceLine.wellFormed ⟨.crc32, [4096, 12]⟩ = false := by decide

theorem test_wf_refuses_wide_len : SourceLine.wellFormed ⟨.crc32, [0, 4096]⟩ = false := by decide

/-! ### Decoding (30_encoding R71, R73, R74; words of 95_test_vectors §6) -/

/-- Format Z, op 0000_0001. -/
theorem test_decode_adler32 :
    decode 0b00000001_000000000000_000000000000#32 = .command .adler32 := by decide

/-- Format Z, op 0000_0010. -/
theorem test_decode_crcinit :
    decode 0b00000010_000000000000_000000000000#32 = .command .crcinit := by decide

/-- Format R, op 0000_0011, A = 57, B = 2375. -/
theorem test_decode_crc32 :
    decode 0b00000011_000000111001_100101000111#32 = .command (.crc32 57 2375) := by decide

/-- Format Z, op 0000_0100. -/
theorem test_decode_b64enc :
    decode 0b00000100_000000000000_000000000000#32 = .command .b64enc := by decide

theorem test_decode_format_z_with_operand : decode 0x01000001 = .illegal .operand := by decide

theorem test_decode_unused_op : decode 0x05000000 = .illegal .opcode := by decide

theorem test_decodeTableWord_crc32 : decodeTableWord 32 0x0398800C = some (.crc32 2440 12) := by
  decide

theorem test_decodeTableWord_illegal : decodeTableWord 32 0xFFFFFFFF = none := by decide

/-! ### The assembler (30_encoding R77, R81) -/

theorem test_assemble_line :
    assembleLine defaultChunks
      ['C', 'R', 'C', '3', '2', ' ', '0', 'x', '3', '9', ',', ' ', '2', '3', '7', '5', ' ', ';', 'i'] =
      some [0x03039947] := by decide +kernel

theorem test_disassemble_illegal :
    disassemble 0x050000AF =
      ['.', 'w', 'o', 'r', 'd', ' ', '0', 'x', '0', '5', '0', '0', '0', '0', 'A', 'F'] := by
  decide +kernel

theorem test_disassemble_crc32 :
    disassemble 0x0398000C = ['C', 'R', 'C', '3', '2', ' ', '2', '4', '3', '2', ',', ' ', '1', '2'] := by
  decide +kernel

/-! ### The units (vectors of 95_test_vectors §2, §3, §4) -/

/-- "Wikipedia", §2.1. -/
theorem test_adler_wikipedia :
    adlerWord (adlerRun [0x57, 0x69, 0x6B, 0x69, 0x70, 0x65, 0x64, 0x69, 0x61]) = 0x11E60398 := by
  decide +kernel

/-- The register trace of "abc", §2.2. -/
theorem test_adler_trace :
    [0x61, 0x62, 0x63].foldl adlerAccumulate adlerStart = ⟨295, 589, 5549⟩ := by decide +kernel

/-- The 5552nd byte of a run of `FF`, from the sums after 5551 (§2.3): the batch reduction. -/
theorem test_adler_batch :
    adlerAccumulate ⟨1415506, 3929447431, 1⟩ 0xFF = ⟨39820, 61839, 5552⟩ := by decide +kernel

/-- §3.1. -/
theorem test_crc_table : crcTable[1] = 0x77073096 ∧ crcTable[255] = 0x2D02EF8D := by decide +kernel

/-- "123456789", §3.2. -/
theorem test_crc_check_value :
    crc32 [0x31, 0x32, 0x33, 0x34, 0x35, 0x36, 0x37, 0x38, 0x39] = 0xCBF43926 := by decide +kernel

/-- §4.1: one, two and three bytes left over; both characters outside the letters and digits. -/
theorem test_b64 :
    b64 [0x66, 0x6F, 0x6F, 0x62] = ['Z', 'm', '9', 'v', 'Y', 'g', '=', '='] ∧
    b64 [0xFB, 0xFF] = ['+', '/', '8', '='] ∧
    b64 [0x4D, 0x61, 0x6E] = ['T', 'W', 'F', 'u'] := by decide +kernel

/-- The unit on "fooba", §4.1. -/
theorem test_b64_unit :
    (b64Run [0x66, 0x6F, 0x6F, 0x62, 0x61]).2 =
      (['Z', 'm', '9', 'v', 'Y', 'm', 'E', '=']).map asciiCode := by decide +kernel

/-! ### One command each, on the illustrative template of 95_test_vectors §5 -/

/-- The bytes of §5. -/
def testBytes : List Byte :=
  [0x00, 0x00, 0x00, 0x0D, 0x49, 0x48, 0x44, 0x52, 0x00, 0x00, 0x00, 0x30, 0x00, 0x00, 0x00, 0x30] ++
  [0x08, 0x03, 0x00, 0x00, 0x00, 0x00, 0x00, 0x00, 0x00] ++
  [0x00, 0x00, 0x00, 0x06, 0x50, 0x4C, 0x54, 0x45] ++ List.replicate 10 0 ++
  [0x00, 0x00, 0x00, 0x02, 0x74, 0x52, 0x4E, 0x53] ++ List.replicate 6 0 ++
  [0x00, 0x00, 0x09, 0x3B, 0x49, 0x44, 0x41, 0x54, 0x78, 0xDA, 0x01, 0x30, 0x09, 0xCF, 0xF6] ++
  List.replicate 2360 0 ++
  [0x00, 0x00, 0x00, 0x00, 0x49, 0x45, 0x4E, 0x44] ++ List.replicate 4 0

theorem testBytes_length : testBytes.length = 2444 := by decide +kernel

/-- The parameters of 95_test_vectors §7. -/
def testParams : Params := ⟨⟨⟨testBytes⟩, testBytes_length⟩, 72, 2424⟩

/-- The reset state with the illustrative template. -/
def testState : State := { State.reset with params := testParams }

/-- The same after CRCINIT: the table built. -/
def builtState : State := { testState with tabv := true, tab := crcTable }

/-- `s` with the given actions of the host pending. -/
def pending (s : State) (acts : List HostAction) : State := { s with host := acts }

/-- `s` with the fault of 95_test_vectors §8, first row. -/
def faultedState : State := { testState with faulted := true, fcause := 2, finfo := 0x03000019 }

/-- The outcome is a next state of which `p` holds. -/
def nextWith (o : Host.Outcome State Fault Refusal) (p : State → Bool) : Bool :=
  match o with
  | .next t => p t
  | .fault _ => false
  | .refused _ => false

/-- The Adler unit over `k` zero bytes: `S1` stays 1 and `S2` counts (R97, worked example). -/
theorem adler_zeros (k : Nat) (h : k < 5552) :
    (List.replicate k 0).foldl adlerAccumulate adlerStart =
      ⟨1, BitVec.ofNat 32 k, BitVec.ofNat 13 (5552 - k)⟩ := by
  induction k with
  | zero => decide
  | succ k ih =>
    rw [List.replicate_succ', List.foldl_append, ih (by omega)]
    have hn : BitVec.ofNat 13 (5552 - k) - 1 = BitVec.ofNat 13 (5552 - (k + 1)) := by
      apply BitVec.eq_of_toNat_eq
      simp
      omega
    have h0 : BitVec.ofNat 13 (5552 - (k + 1)) ≠ 0 := by
      intro e
      have := congrArg BitVec.toNat e
      simp at this
      omega
    have hs : BitVec.ofNat 32 k + 1 = BitVec.ofNat 32 (k + 1) := by
      apply BitVec.eq_of_toNat_eq
      simp
    have ha : adlerAccumulate ⟨1, BitVec.ofNat 32 k, BitVec.ofNat 13 (5552 - k)⟩ 0 =
        adlerAdd ⟨1, BitVec.ofNat 32 k, BitVec.ofNat 13 (5552 - k)⟩ 0 :=
      if_neg (by rw [← hn] at h0; exact h0)
    rw [List.foldl_cons, List.foldl_nil, ha]
    show AdlerRegs.mk _ (BitVec.ofNat 32 k + 1) (BitVec.ofNat 13 (5552 - k) - 1) = _
    rw [hn, hs]
    rfl

theorem testState_stream : testState.stream = List.replicate 2352 0 := by decide +kernel

/-- ADLER32 on the all-zero stream: `09 30 00 01` (R97, worked example; §2.4). -/
theorem test_adler32_zero_stream : testState.patchAdler.memRead 2424 4 = 0x09300001 := by
  have h : adlerWord (adlerRun testState.stream) = 0x09300001 := by
    rw [testState_stream, adlerRun, adler_zeros 2352 (by decide)]
    decide
  have hb : ∀ j, j < 4 → testState.patchAdler.bufByte (2424 + j) =
      (0x09300001 : Word).extractLsb' (8 * (4 - 1 - j)) 8 := by
    intro j hj
    rw [← h]
    exact State.patchAdler_bufByte_inside testState j hj
  unfold State.memRead
  rw [show (List.range 4).map (fun j => testState.patchAdler.bufByte (2424 + j)) =
    (List.range 4).map fun j => (0x09300001 : Word).extractLsb' (8 * (4 - 1 - j)) 8 from
    List.map_congr_left fun j hj => hb j (List.mem_range.1 hj)]
  decide

/-- ADLER32 ends with `N = 3200` and `pc + 1` (R98). -/
theorem test_adler32_counters :
    testState.patchAdler.complete.n = 3200 ∧ testState.patchAdler.complete.pc = 1 := by
  refine ⟨?_, by rw [State.complete_pc, State.patchAdler_pc]; rfl⟩
  rw [State.complete_n, State.patchAdler_n, testState_stream, adlerRun, adler_zeros 2352 (by decide)]
  decide

/-- CRCINIT: the table and `TABV` (P1). -/
theorem test_crcinit :
    nextWith (exec .crcinit testState) (fun t =>
      t.tabv == true && t.tab[128] == 0xEDB88320 && t.pc == 1) = true := by decide +kernel

/-- `CRC32 0, 25` on the IHDR chunk: `60 DC 09 B5` (§3.3). -/
theorem test_crc32_ihdr :
    nextWith (exec (.crc32 0 25) builtState) (fun t =>
      t.bufByte 20 == 0x00 && t.memRead 21 4 == 0x60DC09B5 && t.bufByte 25 == 0x00) = true := by decide +kernel

/-- `CRC32 2432, 13` faults: 2445 > 2444 (§8). -/
theorem test_crc32_bounds :
    nextWith (exec (.crc32 2432 13) builtState) (fun t =>
      t.fcause == 3 && t.finfo == 0x0398000D && t.pc == 0) = true := by decide +kernel

/-- B64ENC: the first twelve characters for a template starting with `00` (§4.2). -/
theorem test_b64enc_signature :
    testState.writeText.outBytes 12 =
      (['i', 'V', 'B', 'O', 'R', 'w', '0', 'K', 'G', 'g', 'o', 'A']).map asciiCode := by
  decide +kernel

/-- `CRC32 0, 0` before CRCINIT reports `TableNotBuilt`, and STATUS reads 2 (§8). -/
theorem test_priority :
    nextWith (step (pending testState [.issue 0x03000000, .readStatus])) (fun t =>
      t.fcause == 2 && t.statusWord == 2 && t.host == [.readStatus]) = true := by decide +kernel

/-- While faulted CRCINIT is ignored (§8). -/
theorem test_sticky :
    nextWith (step (faultedState.withFetchWord 32 0x02000000)) (fun t =>
      t.tabv == false && t.fcause == 2 && t.pc == 0) = true := by decide +kernel

/-! ### Witnesses

One for each clause of an obligation that has hypotheses, at the edges of its range where it has one;
`pending s acts` is `s` with these actions of the host still to come. -/

/-- The step answers some next state. -/
def Runs (s : State) : Prop := ∃ t, step s = .next t

theorem witness_ResetLeavesTheStatedValues : (0 : Nat) < 2444 ∧ 2443 < 2444 := by decide

/-- A next `Issue` with no fault standing: each command, an illegal word, both faults of CRC32; a
next Reset; and neither. -/
theorem witness_StatusFlagsSetAndClearedAsListed :
    (∀ w ∈ [0x01000000, 0x02000000, 0x04000000, 0x00000000, 0x03000019],
      (pending testState [.issue w]).issuesNext w ∧ (pending testState [.issue w]).faulted = false ∧
      Runs (pending testState [.issue w])) ∧
    (pending builtState [.issue 0x0398800C]).issuesNext 0x0398800C ∧
    Runs (pending builtState [.issue 0x0398800C]) ∧
    (pending faultedState [.reset]).resetsNext ∧ Runs (pending faultedState [.reset]) ∧
    ¬ (pending builtState [.readStatus]).resetsNext ∧
    (∀ w, (pending builtState [.readStatus]).issuesNext w →
      (pending builtState [.readStatus]).faulted = true) ∧
    Runs (pending builtState [.readStatus]) := by
  refine ⟨?_, rfl, ⟨_, rfl⟩, rfl, ⟨_, rfl⟩, ?_, ?_, ⟨_, rfl⟩⟩
  · simp only [List.forall_mem_cons]
    exact ⟨⟨rfl, rfl, _, rfl⟩, ⟨rfl, rfl, _, rfl⟩, ⟨rfl, rfl, _, rfl⟩, ⟨rfl, rfl, _, rfl⟩,
      ⟨rfl, rfl, _, rfl⟩, by simp⟩
  · simp [pending, State.resetsNext]
  · simp [pending, State.issuesNext]

/-- Both ways the fault registers change: a first fault, and Reset after one. -/
theorem witness_FaultRegistersHoldTheFirstFault :
    (∃ t, testState.faultRecord ∧ step (pending testState [.issue 0x03000019]) = .next t ∧
      t.fcause ≠ testState.fcause) ∧
    (∃ t, faultedState.faultRecord ∧ step (pending faultedState [.reset]) = .next t ∧
      t.finfo ≠ faultedState.finfo) :=
  ⟨⟨_, .inl ⟨rfl, rfl, rfl⟩, rfl, by decide⟩,
   ⟨_, .inr ⟨rfl, .tableNotBuilt, rfl⟩, rfl, by decide⟩⟩

theorem witness_OutputLengthIsZeroOrWhole :
    (pending testState [.issue 0x04000000]).outputLength ∧
    Runs (pending testState [.issue 0x04000000]) :=
  ⟨.inl ⟨rfl, rfl⟩, _, rfl⟩

/-- Ignored, faulting, completing, and no `Issue`. -/
theorem witness_CommandIndexCountsCompletions :
    (∃ t, (pending faultedState [.issue 0x02000000]).issuesNext 0x02000000 ∧
      faultedState.faulted = true ∧ step (pending faultedState [.issue 0x02000000]) = .next t) ∧
    (∃ t, step (pending testState [.issue 0x01000001]) = .next t ∧ t.faulted = true) ∧
    (∃ t, step (pending testState [.issue 0x02000000]) = .next t ∧ t.faulted = false) ∧
    ((∀ w, ¬ (pending testState [.readBuf 0]).issuesNext w) ∧
      ¬ (pending testState [.readBuf 0]).resetsNext ∧ Runs (pending testState [.readBuf 0])) := by
  refine ⟨⟨_, rfl, rfl, rfl⟩, ⟨_, rfl, rfl⟩, ⟨_, rfl, rfl⟩, ?_, ?_, ⟨_, rfl⟩⟩
  · simp [pending, State.issuesNext]
  · simp [pending, State.resetsNext]

/-- ADLER32 writes its first field byte, `CRC32 2432, 12` the last byte of `BUF`. -/
theorem witness_CommandsWriteBufOnlyInTwoPlaces :
    (∃ t, step (pending testState [.issue 0x01000000]) = .next t ∧
      t.bufByte 2424 ≠ testState.bufByte 2424) ∧
    (∃ t, step (pending builtState [.issue 0x0398000C]) = .next t ∧
      t.bufByte 2443 ≠ builtState.bufByte 2443) := by
  refine ⟨⟨(testState.answer .returned).patchAdler.complete, rfl, ?_⟩,
    ((builtState.answer .returned).patchCrc 2432 12).complete, rfl, by decide +kernel⟩
  have hs : (testState.answer .returned).stream = List.replicate 2352 0 := by decide +kernel
  have h : (testState.answer .returned).patchAdler.bufByte (2424 + 0) = 0x09 := by
    refine (State.patchAdler_bufByte_inside (testState.answer .returned) 0 (by decide)).trans ?_
    rw [hs, adlerRun, adler_zeros 2352 (by decide)]
    decide
  have h0 : testState.bufByte 2424 = 0 := by decide +kernel
  rw [State.complete_bufByte, h0, h]
  decide

theorem witness_OutputAndTableWrittenByOneCommandEach :
    (¬ (pending testState [.issue 0x01000000]).resetsNext ∧
      Runs (pending testState [.issue 0x01000000])) ∧
    (∀ w, (pending testState [.issue 0x01000000]).issuesNext w →
      decode w ≠ .command .b64enc ∧ decode w ≠ .command .crcinit) := by
  refine ⟨⟨by simp [pending, State.resetsNext], _, rfl⟩, fun w hw => ?_⟩
  simp only [pending, State.issuesNext, List.head?_cons, Option.some.injEq,
    HostAction.issue.injEq] at hw
  subst hw
  decide

/-- Two different states that look alike. -/
theorem witness_WorkingRegistersHaveNoEffect :
    ({ testState with s1 := 7, tab := crcTable } : State).visible = testState.visible ∧
    ({ testState with s1 := 7, tab := crcTable } : State) ≠ testState := by
  refine ⟨rfl, fun e => ?_⟩
  have := congrArg State.s1 e
  exact absurd this (by decide)

theorem witness_ParametersAreNeverChanged : Runs (pending testState [.reset]) := ⟨_, rfl⟩

theorem witness_MemoriesStayCanonical :
    (pending testState [.writeBuf 2443 0xAE]).memoriesCanonical ∧
    Runs (pending testState [.writeBuf 2443 0xAE]) :=
  ⟨⟨Memory.wf_nil _ _, Memory.wf_nil _ _⟩, _, rfl⟩

theorem witness_WorkedEncodings : builtState.tabv = true := rfl

theorem witness_EncodeAndDecodeAreInverse : decode 0x03FFFFFF = .command (.crc32 4095 4095) := by
  decide

/-- Each kind of illegal word at its edges, and a state that issues one. -/
theorem witness_IllegalWordsRaiseIllegalCommand :
    decode 0x00FFFFFF = .illegal .opcode ∧ decode 0x05000000 = .illegal .opcode ∧
    decode 0xFF000000 = .illegal .opcode ∧ decode 0x01000001 = .illegal .operand ∧
    decode 0x02001000 = .illegal .operand ∧ decode 0x04FFFFFF = .illegal .operand ∧
    (pending testState [.issue 0x05000000]).host = [.issue 0x05000000] ∧
    testState.faulted = false := by
  refine ⟨?_, ?_, ?_, ?_, ?_, ?_, rfl, rfl⟩ <;> decide

theorem witness_OperandsAreTheWordsBits :
    (0x03000000 : Word).toNat / 2 ^ 24 = 3 ∧ (0x03FFFFFF : Word).toNat / 2 ^ 24 = 3 := by decide

/-- Both clauses where they meet. -/
theorem witness_AssemblerRejectsOperandsThatDoNotFit :
    assembleSource defaultChunks ⟨.crc32, [4095, 4095]⟩ = some [0x03FFFFFF] ∧
    assembleSource defaultChunks ⟨.crc32, [4096, 0]⟩ = none ∧
    assembleSource defaultChunks ⟨.crc32, [0, 4096]⟩ = none := by decide

theorem witness_AdlerBatchReductionEvery5552 :
    adlerStart.n ≠ 1 ∧ (⟨65520, 65520, 1⟩ : AdlerRegs).n = 1 := by decide

/-- A whole batch of `FF` from the largest sums. -/
theorem witness_AdlerSumsNeverOverflowInABatch :
    (⟨65520, 65520, 5552⟩ : AdlerRegs).s1.toNat ≤ 65520 ∧
    (⟨65520, 65520, 5552⟩ : AdlerRegs).s2.toNat ≤ 65520 ∧
    (List.replicate 5552 (0xFF : Byte)).length ≤ 5552 := by
  exact ⟨by decide, by decide, Nat.le_of_eq List.length_replicate⟩

theorem witness_Adler32Frame :
    (∃ t, exec .adler32 testState = .next t) ∧
    (2423 < testState.adlerOff ∧ testState.adlerOff + 4 ≤ 2428) := by
  exact ⟨⟨_, rfl⟩, by decide⟩

/-- The field after the stream, and before it. -/
theorem witness_Adler32IsIdempotent :
    testState.streamOff + 2352 ≤ testState.adlerOff ∧
    (∃ s : State, s.adlerOff + 4 ≤ s.streamOff) ∧
    ∃ t u, exec .adler32 testState = .next t ∧ exec .adler32 t = .next u := by
  exact ⟨by decide,
    ⟨{ testState with params := { testParams with streamOff := 92, adlerOff := 88 } }, by decide⟩,
    _, _, rfl, rfl⟩

/-- A template of one byte throughout. -/
def flatState (b : Byte) : State :=
  { State.reset with params := { testParams with template := Vector.replicate 2444 b } }

theorem flatState_bufByte (b : Byte) (x : Nat) (h : x < 2444) : (flatState b).bufByte x = b := by
  show templateByte _ x = b
  simp [templateByte, flatState, h]

theorem witness_Adler32OfConstantStreams :
    (∀ k, k < 2352 → (flatState 0).bufByte ((flatState 0).streamOff + k) = 0) ∧
    (∀ k, k < 2352 → (flatState 0xFF).bufByte ((flatState 0xFF).streamOff + k) = 0xFF) := by
  have h : ∀ b, (flatState b).streamOff = 72 := fun _ => rfl
  refine ⟨fun k hk => ?_, fun k hk => ?_⟩ <;>
    exact flatState_bufByte _ _ (by rw [h]; omega)

theorem witness_CrcTableIsThePrintedOne : ∃ i j : BitVec 8, i ^^^ j = 3 ∧ i ≠ j :=
  ⟨1, 2, by decide⟩

theorem witness_CrcinitBuildsTheTable : (255 : Nat) < 256 := by decide

theorem witness_CrcinitIsIdempotent :
    ∃ t u, exec .crcinit testState = .next t ∧ exec .crcinit t = .next u :=
  ⟨_, _, rfl, rfl⟩

theorem witness_TableStaysBuilt :
    builtState.tableBuilt ∧ (pending builtState [.issue 0x02000000]).tableBuilt ∧
    Runs (pending builtState [.issue 0x02000000]) :=
  ⟨fun _ => rfl, fun _ => rfl, _, rfl⟩

/-- The smallest chunk, at both ends of `BUF`, and the largest. -/
theorem witness_Crc32PatchesTheChecksum :
    builtState.tabv = true ∧ builtState.tab = crcTable ∧
    ∀ p ∈ [((0 : BitVec 12), (12 : BitVec 12)), (2432, 12), (0, 2444)],
      12 ≤ p.2.toNat ∧ p.1.toNat + p.2.toNat ≤ 2444 :=
  ⟨rfl, rfl, by simp⟩

/-- In bounds with the table; out of bounds; and without the table. -/
theorem witness_Crc32Frame :
    (∃ t, exec (.crc32 2432 12) builtState = .next t) ∧
    (builtState.tabv = true ∧ chunkInBounds 2432 12 = true) ∧
    (∃ t, exec (.crc32 2432 13) builtState = .next t) ∧
    ¬ (builtState.tabv = true ∧ chunkInBounds 2432 13 = true) ∧
    (∃ t, exec (.crc32 2432 12) testState = .next t) ∧
    ¬ (testState.tabv = true ∧ chunkInBounds 2432 12 = true) :=
  ⟨exec_next _ _, by decide, exec_next _ _, by decide, exec_next _ _, by decide⟩

theorem witness_Crc32FaultsBeforeWriting :
    testState.tabv = false ∧ builtState.tabv = true ∧
    ∀ p ∈ [((0 : BitVec 12), (0 : BitVec 12)), (0, 11), (2432, 13), (4095, 4095)],
      p.2.toNat < 12 ∨ 2444 < p.1.toNat + p.2.toNat :=
  ⟨rfl, rfl, by simp⟩

theorem witness_Crc32IsIdempotent :
    builtState.tabv = true ∧ chunkInBounds 0 12 = true ∧
    ∃ t u, exec (.crc32 0 12) builtState = .next t ∧ exec (.crc32 0 12) t = .next u := by
  obtain ⟨t, ht⟩ := exec_next (.crc32 0 12) builtState
  obtain ⟨u, hu⟩ := exec_next (.crc32 0 12) t
  exact ⟨rfl, by decide, t, u, ht, hu⟩

theorem witness_FiveChunkCrcsCommute :
    builtState.tabv = true ∧ builtState.tab = crcTable ∧
    (crcAll defaultChunks).reverse.Perm (crcAll defaultChunks) ∧
    defaultChunks.idat ∈ [defaultChunks.ihdr, defaultChunks.plte, defaultChunks.trns,
      defaultChunks.idat, defaultChunks.iend] :=
  ⟨rfl, rfl, List.reverse_perm _, by decide⟩

theorem witness_Base64LengthLaw : (List.replicate 2452 (0 : Byte)).length = 2452 :=
  List.length_replicate

theorem witness_SourceStreamIsSignatureThenBuffer :
    (7 : Nat) < 8 ∧ (8 : Nat) ≤ 8 ∧ (8 : Nat) < 2452 ∧ (8 : Nat) ≤ 2451 ∧ (2451 : Nat) < 2452 := by
  decide

theorem witness_B64encFrame : ∃ t, exec .b64enc testState = .next t := ⟨_, rfl⟩

/-- A text of the form B64ENC leaves. -/
def testText : List Byte :=
  (['i', 'V', 'B', 'O', 'R', 'w', '0', 'K', 'G', 'g']).map asciiCode ++
    List.replicate 3260 (asciiCode 'A') ++ [padCode, padCode]

theorem testText_length : testText.length = 3272 := by decide +kernel

/-- A state whose `OUT` holds that text. -/
def textState : State := ({ testState with outv := true, outlen := 3272 } : State).outWrite 0 testText

theorem textState_outByte (j : Nat) (h : j < 3272) :
    textState.outByte j = testText[j]'(by rw [testText_length]; exact h) := by
  unfold textState
  rw [State.outByte_outWrite, dif_pos (by rw [testText_length]; omega)]
  rfl

/-- A state with output, and its next step. -/
theorem witness_OutputTextStaysWellFormed :
    textState.outv = true ∧ (pending textState [.readOut 3271]).outputText ∧
    Runs (pending textState [.readOut 3271]) := by
  refine ⟨rfl, fun _ => ⟨?_, ?_, ?_, fun j hj => ?_⟩, _, rfl⟩
  · have h : textState.outBytes 10 = testText.take 10 := by
      refine List.ext_getElem (by simp [testText_length]) fun i h1 h2 => ?_
      have : i < 10 := by simpa using h1
      simp only [State.outBytes, List.getElem_map, List.getElem_range, List.getElem_take]
      exact textState_outByte i (by omega)
    refine h.trans ?_
    decide +kernel
  · refine (textState_outByte 3270 (by decide)).trans ?_
    simp only [testText]
    decide +kernel
  · refine (textState_outByte 3271 (by decide)).trans ?_
    simp only [testText]
    decide +kernel
  · have e := textState_outByte j (by omega)
    have hm : textState.outByte j ∈ testText.take 3270 := by
      rw [e]
      exact List.mem_take_iff_getElem.2 ⟨j, by rw [testText_length]; omega, rfl⟩
    have ht : testText.take 3270 =
        (['i', 'V', 'B', 'O', 'R', 'w', '0', 'K', 'G', 'g']).map asciiCode ++
          List.replicate 3260 (asciiCode 'A') := by decide +kernel
    rw [ht, List.mem_append, List.mem_replicate] at hm
    show textState.outByte j ∈ _
    rcases hm with hm | ⟨-, hm⟩
    · revert hm
      generalize textState.outByte j = b
      revert b
      decide +kernel
    · rw [hm]
      decide

/-- The four checks: faulted; illegal; no table, with operands out of bounds too; out of bounds. -/
theorem witness_IssueChecksInFixedOrder :
    faultedState.faulted = true ∧ testState.faulted = false ∧
    decode 0xFFFFFFFF = .illegal .opcode ∧ decode 0x03000000 = .command (.crc32 0 0) ∧
    testState.tabv = false ∧ builtState.faulted = false ∧ builtState.tabv = true ∧
    decode 0x0398000D = .command (.crc32 2432 13) ∧ 2444 < (2432 : BitVec 12).toNat + 13 ∧
    ∀ s : State, (pending s [.issue 0x03000000]).host = .issue 0x03000000 :: [] := by
  refine ⟨rfl, rfl, ?_, ?_, rfl, rfl, rfl, ?_, ?_, fun _ => rfl⟩ <;> decide

theorem witness_FaultsArePrecise :
    (∃ t, step (pending testState [.issue 0]) = .next t ∧ t.faulted = true) ∧
    (∃ t, step (pending testState [.issue 0x03000019]) = .next t ∧ t.faulted = true) ∧
    (∃ t, step (pending builtState [.issue 0x0300000B]) = .next t ∧ t.faulted = true) ∧
    testState.faulted = false ∧ builtState.faulted = false :=
  ⟨⟨_, rfl, rfl⟩, ⟨_, rfl, rfl⟩, ⟨_, rfl, rfl⟩, rfl, rfl⟩

/-- A faulted state, with output, before each of the actions. -/
theorem witness_FaultsAreSticky :
    faultedState.faulted = true ∧
    (pending faultedState [.issue 0x02000000]).host = [.issue 0x02000000] ∧
    ¬ (pending faultedState [.readStatus]).resetsNext ∧ Runs (pending faultedState [.readStatus]) ∧
    (pending faultedState [.readBuf 2443]).host = [.readBuf 2443] ∧
    (pending faultedState [.writeBuf 2443 1]).host = [.writeBuf 2443 1] ∧
    (∃ s : State, s.faulted = true ∧ 3271 < s.outlen.toNat ∧ s.host = [.readOut 3271]) := by
  exact ⟨rfl, rfl, by simp [pending, State.resetsNext], ⟨_, rfl⟩, rfl, rfl,
    ⟨{ pending faultedState [.readOut 3271] with outlen := 3272 }, rfl, by decide, rfl⟩⟩

theorem witness_ResetCreatesAFreshContext :
    (pending faultedState [.reset]).host = [.reset] ∧ (2443 : Nat) < 2444 ∧
    ∃ t, step (pending faultedState [.reset]) = .next t ∧ faultedState.faulted = true ∧
      t.faulted = false :=
  ⟨rfl, by decide, _, rfl, rfl, rfl⟩

theorem witness_WriteBufWritesOneByte :
    (pending testState [.writeBuf 2443 5]).host = [.writeBuf 2443 5] ∧ (2443 : Nat) < 2444 ∧
    (pending testState [.writeBuf 2444 5]).host = [.writeBuf 2444 5] ∧ (2444 : Nat) ≤ 2444 :=
  ⟨rfl, by decide, rfl, by decide⟩

/-- Each read at the edges of its memory; `OUT` below `OUTLEN` and from it up. -/
theorem witness_HostReadsHandBackAndChangeNothing :
    (pending testState [.readBuf 2443]).host = [.readBuf 2443] ∧
    (pending testState [.readBuf 2444]).host = [.readBuf 2444] ∧
    (3271 < ({ testState with outlen := 3272 } : State).outlen.toNat ∧ (3271 : Nat) < 3272) ∧
    testState.outlen.toNat ≤ 0 ∧
    (pending testState [.readOut 3272]).host = [.readOut 3272] ∧
    (pending testState [.readStatus]).host = [.readStatus] :=
  ⟨rfl, rfl, by decide, by decide, rfl, rfl⟩

theorem witness_OnlyAccessesOutsideAMemoryAreRefused :
    (pending testState [.readBuf 2444]).accessOutside (.bufAddress 2444) ∧
    (pending testState [.writeBuf 2444 0]).accessOutside (.bufAddress 2444) ∧
    (pending testState [.readOut 3272]).accessOutside (.outIndex 3272) :=
  ⟨.inr (.inl ⟨2444, rfl, by decide, rfl⟩), .inl ⟨2444, 0, rfl, by decide, rfl⟩,
   .inr (.inr ⟨3272, rfl, by decide, rfl⟩)⟩

theorem witness_StepRunsTheDecodedCommand :
    (State.reset.withFetchWord 32 0x03039947).host = [.issue 0x03039947] ∧
    State.reset.faulted = false ∧ decode 0x03039947 = .command (.crc32 57 2375) := by
  refine ⟨rfl, rfl, ?_⟩
  decide

theorem witness_NothingHappensWithoutTheHost : State.reset.host = [] := rfl

/-- Three steps of a faulted run of two commands. -/
theorem witness_FaultedRunNeverEnds :
    ∃ t, Host.Core.run Sys2Proof.core 3 (pending faultedState (issueAll [0x02000000, 0x04000000])) =
        .next t ∧
      faultedState.faulted = true ∧ faultedState.pc < [(0x02000000 : Word), 0x04000000].length ∧
      HostAction.reset ∉ (pending faultedState (issueAll [0x02000000, 0x04000000])).host :=
  ⟨_, rfl, rfl, by decide, by decide⟩

theorem witness_AdlerBeforeIdatCrcVerifies :
    DefaultLayout builtState.params ∧ builtState.tabv = true ∧ builtState.tab = crcTable :=
  ⟨⟨rfl, rfl⟩, rfl, rfl⟩

end Sys2Proof.Tests
end

section
/-! PROOFS. The scope of a step (00_scope): what one `Issue` runs. -/

namespace Sys2Proof.Machine

/-- Issue of a word that decodes to a command, with no fault standing (60_exceptions R153). -/
theorem hostIssue_command {w : Word} {s : State} {i : Instr} (hf : s.faulted = false)
    (hd : decode w = .command i) : hostIssue w s = exec i (s.answer .returned) := by
  simp [hostIssue, hf, hd]

/-- Settles O54: the step performs the pending `Issue`, which passes both checks before the command. -/
theorem stepRunsTheDecodedCommand : Obligations.StepRunsTheDecodedCommand := by
  unfold Obligations.StepRunsTheDecodedCommand
  intro s w rest i hh hf hd
  have hf' : (s.setHost rest).faulted = false := by rw [State.setHost_faulted, hf]
  calc step s = hostIssue w (s.setHost rest) := step_action hh
    _ = exec i ((s.setHost rest).answer .returned) := hostIssue_command hf' hd
    _ = exec i { s with host := rest, reply := .returned } := rfl

end Sys2Proof.Machine
end

section
/-! PROOFS. Noninterference (10_state R37): every action of the host and every command commutes with
`State.visible`, which hides the working registers and the unreadable table. -/

namespace Sys2Proof.Machine

variable (s : State)

/-! ### What `State.visible` keeps, and how updates pass through it -/

@[simp] theorem State.visible_host : s.visible.host = s.host := rfl
@[simp] theorem State.visible_tabv : s.visible.tabv = s.tabv := rfl
@[simp] theorem State.visible_faulted : s.visible.faulted = s.faulted := rfl
@[simp] theorem State.visible_outlen : s.visible.outlen = s.outlen := rfl
@[simp] theorem State.visible_adlerOff : s.visible.adlerOff = s.adlerOff := rfl
@[simp] theorem State.visible_bufByte (x : Nat) : s.visible.bufByte x = s.bufByte x := rfl
@[simp] theorem State.visible_outByte (x : Nat) : s.visible.outByte x = s.outByte x := rfl
@[simp] theorem State.visible_stream : s.visible.stream = s.stream := rfl
@[simp] theorem State.visible_srcStream : s.visible.srcStream = s.srcStream := rfl
@[simp] theorem State.visible_coveredBytes (off len : BitVec 12) :
    s.visible.coveredBytes off len = s.coveredBytes off len := rfl

/-- The table is hidden only while it is unreadable. -/
theorem State.visible_tab {s : State} (h : s.tabv = true) : s.visible.tab = s.tab := if_pos h

@[simp] theorem State.visible_visible : s.visible.visible = s.visible := by
  unfold State.visible
  cases s.tabv <;> rfl

@[simp] theorem State.setHost_visible (rest : List HostAction) :
    (s.setHost rest).visible = s.visible.setHost rest := rfl
@[simp] theorem State.answer_visible (r : Reply) : (s.answer r).visible = s.visible.answer r := rfl
@[simp] theorem State.answerFree_visible : s.answerFree.visible = s.visible.answerFree := rfl
@[simp] theorem State.complete_visible : s.complete.visible = s.visible.complete := rfl
@[simp] theorem State.raiseFault_visible (c : Fault) (w : Word) :
    (s.raiseFault c w).visible = s.visible.raiseFault c w := rfl
@[simp] theorem State.bufWrite_visible (a : Nat) (bs : List Byte) :
    (s.bufWrite a bs).visible = s.visible.bufWrite a bs := rfl
@[simp] theorem State.memWrite_visible (a k : Nat) (v : BitVec (8 * k)) :
    (s.memWrite a k v).visible = s.visible.memWrite a k v := rfl
@[simp] theorem State.setAdler_visible (x y : Word) (k : BitVec 13) (p : BitVec 12) :
    (s.setAdler x y k p).visible = s.visible := rfl
@[simp] theorem State.setCrc_visible (x : Word) (p : BitVec 12) :
    (s.setCrc x p).visible = s.visible := rfl
@[simp] theorem State.setB64_visible (g : BitVec 24) (cnt : BitVec 2) (ptr optr : BitVec 12) :
    (s.setB64 g cnt ptr optr).visible = s.visible := rfl
@[simp] theorem State.outWrite_visible (j : Nat) (bs : List Byte) :
    (s.outWrite j bs).visible = s.visible.outWrite j bs := rfl
@[simp] theorem State.setOutlen_visible (k : BitVec 12) :
    (s.setOutlen k).visible = s.visible.setOutlen k := rfl
@[simp] theorem State.setOutv_visible (v : Bool) :
    (s.setOutv v).visible = s.visible.setOutv v := rfl

/-! ### The commands' effects -/

/-- ADLER32 depends on what is visible only: it starts from `adlerStart` (40_adler32 R91). -/
theorem State.patchAdler_of_visible : s.visible.patchAdler.visible = s.patchAdler.visible := by
  have store (r : AdlerRegs) : (s.visible.storeAdler r).visible = (s.storeAdler r).visible := by
    simp [State.storeAdler]
  rw [State.patchAdler, State.visible_stream]
  exact store _

/-- CRCINIT writes the whole table and draws its free word by the visible count. -/
theorem State.buildTable_of_visible : s.visible.buildTable.visible = s.buildTable.visible := rfl

/-- With the table built, CRC32 depends on what is visible only: it starts from `crcOnes`. -/
theorem State.patchCrc_of_visible {s : State} (h : s.tabv = true) (off len : BitVec 12) :
    (s.visible.patchCrc off len).visible = (s.patchCrc off len).visible := by
  simp [State.patchCrc, State.visible_tab h]

/-- B64ENC depends on what is visible only: it starts from `b64Start` (42_base64 R139). -/
theorem State.writeText_of_visible : s.visible.writeText.visible = s.writeText.visible := by
  have store (r : B64Regs × List Byte) :
      (s.visible.storeText r).visible = (s.storeText r).visible := by
    simp [State.storeText]
  rw [State.writeText, State.visible_srcStream]
  exact store _

/-! ### The step -/

/-- A command sees only what is visible. -/
theorem exec_visible (i : Instr) :
    visibleOutcome (exec i s.visible) = visibleOutcome (exec i s) := by
  cases i with
  | adler32 => simp [exec_adler32, visibleOutcome, State.patchAdler_of_visible]
  | crcinit => simp [exec_crcinit, visibleOutcome, State.buildTable_of_visible]
  | b64enc => simp [exec_b64enc, visibleOutcome, State.writeText_of_visible]
  | crc32 off len =>
    cases ht : s.tabv with
    | false =>
      have hv : s.visible.tabv = false := s.visible_tabv.trans ht
      simp [exec_crc32_noTable off len ht, exec_crc32_noTable off len hv, visibleOutcome]
    | true =>
      have hv : s.visible.tabv = true := s.visible_tabv.trans ht
      cases hb : chunkInBounds off len with
      | false => simp [exec_crc32_outside ht hb, exec_crc32_outside hv hb, visibleOutcome]
      | true =>
        simp [exec_crc32_inside ht hb, exec_crc32_inside hv hb, visibleOutcome,
          State.patchCrc_of_visible ht]

/-- Issue sees only what is visible: the fault bit, and what its command sees. -/
theorem hostIssue_visible (w : Word) :
    visibleOutcome (hostIssue w s.visible) = visibleOutcome (hostIssue w s) := by
  unfold hostIssue
  rw [State.visible_faulted]
  cases s.faulted with
  | true => simp [visibleOutcome]
  | false =>
    cases decode w with
    | illegal why => simp [visibleOutcome]
    | command i => exact exec_visible (s.answer .returned) i

/-- Every action of the host sees only what is visible. -/
theorem perform_visible (act : HostAction) :
    visibleOutcome (perform act s.visible) = visibleOutcome (perform act s) := by
  cases act with
  | reset => rfl
  | writeBuf a v =>
    by_cases ha : a < bufSize <;> simp [perform, hostWriteBuf, ha, visibleOutcome]
  | readBuf a =>
    by_cases ha : a < bufSize <;> simp [perform, hostReadBuf, ha, visibleOutcome]
  | readOut i =>
    by_cases hi : i < outSize
    · by_cases hl : i < s.outlen.toNat <;> simp [perform, hostReadOut, hi, hl, visibleOutcome]
    · simp [perform, hostReadOut, hi, visibleOutcome]
  | readStatus =>
    have reply : s.visible.statusWord = s.statusWord ∧ s.visible.fcause = s.fcause ∧
        s.visible.finfo = s.finfo := ⟨rfl, rfl, rfl⟩
    simp [perform, hostReadStatus, visibleOutcome, reply]
  | issue w => exact hostIssue_visible s w

/-- A step sees only what is visible. -/
theorem step_visible : visibleOutcome (step s.visible) = visibleOutcome (step s) := by
  cases hh : s.host with
  | nil =>
    have hv : s.visible.host = [] := s.visible_host.trans hh
    simp [step_idle hh, step_idle hv, visibleOutcome]
  | cons act rest =>
    have hv : s.visible.host = act :: rest := s.visible_host.trans hh
    rw [step_action hh, step_action hv, ← State.setHost_visible]
    exact perform_visible (s.setHost rest) act

/-- Settles O8: both steps are seen as the step of the common visible state. -/
theorem workingRegistersHaveNoEffect : Obligations.WorkingRegistersHaveNoEffect := by
  intro s t h
  calc visibleOutcome (step s) = visibleOutcome (step s.visible) := (step_visible s).symm
    _ = visibleOutcome (step t.visible) := by rw [h]
    _ = visibleOutcome (step t) := step_visible t

end Sys2Proof.Machine
end

section
/-! PROOFS. A legal word is the encoding of its command (30_encoding R81), so that the word a CRC32
rebuilds for `FINFO` is the issued one (log 21). -/

namespace Sys2Proof

/-- A format-Z word decodes to its command only with both operand fields zero. -/
theorem formatZ_command {w : Word} {i j : Instr} (h : formatZ w i = .command j) :
    aField w = 0 ∧ bField w = 0 ∧ i = j := by
  unfold formatZ at h
  split at h
  · next hz =>
    cases h
    exact ⟨hz.1, hz.2, rfl⟩
  · cases h

/-- The one word with the given opcode and zero operands. -/
theorem packWord_of_formatZ {w : Word} {i j : Instr} (h : formatZ w i = .command j) :
    packWord (opField w) 0 0 = w ∧ i = j := by
  obtain ⟨ha, hb, hij⟩ := formatZ_command h
  have hw := packWord_fields w
  rw [ha, hb] at hw
  exact ⟨hw, hij⟩

/-- The encoder undoes the decoder on every legal word. -/
theorem encode_of_decode {w : Word} {i : Instr} (h : decode w = .command i) : encode i = w := by
  unfold decode at h
  split at h
  · next hop =>
    obtain ⟨hw, rfl⟩ := packWord_of_formatZ h
    rwa [hop] at hw
  · split at h
    · next hop =>
      obtain ⟨hw, rfl⟩ := packWord_of_formatZ h
      rwa [hop] at hw
    · split at h
      · next hop =>
        cases h
        have hw := packWord_fields w
        rwa [hop] at hw
      · split at h
        · next hop =>
          obtain ⟨hw, rfl⟩ := packWord_of_formatZ h
          rwa [hop] at hw
        · cases h

end Sys2Proof
end

section
/-! PROOFS. The length of the base64 text: `OPTR` after a run counts the characters (42_base64 R136,
R139). -/

namespace Sys2Proof.Machine

theorem b64Push_cnt_toNat (r : B64Regs) (d : Byte) (h : r.cnt.toNat < 3) :
    (b64Push r d).cnt.toNat = r.cnt.toNat + 1 := by
  simp [b64Push, BitVec.toNat_add]
  omega

/-- The third byte of a group: its characters are written and the registers are cleared. -/
theorem b64Loop_cons_full {r : B64Regs} (h : r.cnt.toNat = 2) (d : Byte) (ds : List Byte) :
    (b64Loop r (d :: ds)).1 = (b64Loop ⟨0, 0, r.optr + 4⟩ ds).1 := by
  have hfull : (b64Push r d).cnt = 3 :=
    BitVec.eq_of_toNat_eq (by rw [b64Push_cnt_toNat r d (by omega), h]; rfl)
  have hoptr : (b64Push r d).optr = r.optr := rfl
  simp only [b64Loop, hfull, hoptr, if_true]

/-- Any other byte is held. -/
theorem b64Loop_cons_held {r : B64Regs} (h : r.cnt.toNat < 2) (d : Byte) (ds : List Byte) :
    b64Loop r (d :: ds) = b64Loop (b64Push r d) ds := by
  have hheld : (b64Push r d).cnt ≠ 3 := fun e => by
    have hcnt := b64Push_cnt_toNat r d (by omega)
    have hthree : (b64Push r d).cnt.toNat = 3 := by rw [e]; rfl
    omega
  simp only [b64Loop, if_neg hheld]

/-- Through the loop of R139 `CNT` counts the bytes held modulo 3, and `OPTR` goes up by 4 for each
full group. -/
theorem b64Loop_counts (r : B64Regs) (ds : List Byte) (h : r.cnt.toNat < 3) :
    (b64Loop r ds).1.cnt.toNat = (r.cnt.toNat + ds.length) % 3 ∧
    (b64Loop r ds).1.optr = r.optr + BitVec.ofNat 12 (4 * ((r.cnt.toNat + ds.length) / 3)) := by
  induction ds generalizing r with
  | nil =>
    have hq : r.cnt.toNat / 3 = 0 := by omega
    exact ⟨(Nat.mod_eq_of_lt h).symm, by simp [b64Loop, hq]⟩
  | cons d ds ih =>
    rw [List.length_cons]
    by_cases hfull : r.cnt.toNat = 2
    · obtain ⟨ihc, iho⟩ := ih ⟨0, 0, r.optr + 4⟩ (by simp)
      have hzero : (0 : BitVec 2).toNat + ds.length = ds.length := by simp
      have hm : (2 + (ds.length + 1)) % 3 = ds.length % 3 := by omega
      have hq : 4 * ((2 + (ds.length + 1)) / 3) = 4 + 4 * (ds.length / 3) := by omega
      rw [b64Loop_cons_full hfull, ihc, iho, hfull, hzero, hm, hq, BitVec.ofNat_add,
        ← BitVec.add_assoc]
      exact ⟨rfl, rfl⟩
    · have hcnt := b64Push_cnt_toNat r d h
      have hsum : r.cnt.toNat + 1 + ds.length = r.cnt.toNat + (ds.length + 1) := by omega
      have hrest := ih (b64Push r d) (by omega)
      rw [hcnt, hsum] at hrest
      rw [b64Loop_cons_held (by omega)]
      exact hrest

/-- The tail of R139 writes one more group of four characters when a byte is held. -/
theorem b64Tail_optr (r : B64Regs) (h : r.cnt.toNat < 3) :
    (b64Tail r).1.optr = if r.cnt.toNat = 0 then r.optr else r.optr + 4 := by
  have hcnt : ∀ c : BitVec 2, c.toNat < 3 → c = 0 ∨ c = 1 ∨ c = 2 := by decide
  unfold b64Tail
  rcases hcnt r.cnt h with hc | hc | hc <;> simp [hc]

/-- `OPTR` after a whole run: four characters for every three input bytes begun (R136). -/
theorem b64Run_optr (ds : List Byte) :
    (b64Run ds).1.optr = BitVec.ofNat 12 (4 * ((ds.length + 2) / 3)) := by
  obtain ⟨hcnt, hoptr⟩ := b64Loop_counts b64Start ds (by decide)
  have hstart : b64Start.cnt.toNat + ds.length = ds.length := by simp [b64Start]
  rw [hstart] at hcnt hoptr
  have htail : (b64Run ds).1.optr = (b64Tail (b64Loop b64Start ds).1).1.optr := rfl
  rw [htail, b64Tail_optr _ (by omega), hcnt, hoptr]
  by_cases hm : ds.length % 3 = 0
  · have hq : (ds.length + 2) / 3 = ds.length / 3 := by omega
    simp [hm, hq, b64Start]
  · have hq : 4 * ((ds.length + 2) / 3) = 4 * (ds.length / 3) + 4 := by omega
    rw [if_neg hm, hq, BitVec.ofNat_add]
    simp [b64Start]

/-- `OUTLEN` after B64ENC: 2452 input bytes give 3272 characters (10_state R24, 42_base64 R136). -/
theorem State.writeText_outlen_eq (s : State) : s.writeText.outlen = 3272 := by
  rw [State.writeText_outlen, b64Run_optr, State.srcStream_length]
  rfl

end Sys2Proof.Machine
end

section
/-! PROOFS. The three ways a step goes: Reset, an Issue with no fault standing, and everything else,
which leaves all but `BUF`, `host`, `reply` and `draws` as it was. -/

namespace Sys2Proof.Machine

/-! ### The host's next action -/

theorem State.resetsNext_iff {s : State} {act : HostAction} {rest : List HostAction}
    (h : s.host = act :: rest) : s.resetsNext ↔ act = .reset := by
  simp [State.resetsNext, h]

theorem State.issuesNext_iff {s : State} {act : HostAction} {rest : List HostAction}
    (h : s.host = act :: rest) (w : Word) : s.issuesNext w ↔ act = .issue w := by
  simp [State.issuesNext, h]

/-- The next action is none that runs a command: no Issue, or one while a fault stands. -/
def State.issuesNothing (s : State) : Prop := ∀ w, s.issuesNext w → s.faulted = true

/-! ### Reset and the quiet steps -/

/-- A Reset gives the reset state but for the model's own fields (log 8). -/
theorem step_of_resetsNext {s t : State} (hr : s.resetsNext) (h : step s = .next t) :
    ∃ host, t = { State.reset with params := s.params, host := host, draws := s.draws } := by
  obtain ⟨rest, hh⟩ : ∃ rest, s.host = .reset :: rest := List.head?_eq_some_iff.1 hr
  rw [step_action hh] at h
  cases h
  exact ⟨rest, rfl⟩

/-- A step that neither resets nor runs a command changes at most `BUF` (WriteBuf) and the model's
own fields. -/
theorem step_of_issuesNothing {s t : State} (hr : ¬ s.resetsNext) (hq : s.issuesNothing)
    (h : step s = .next t) : ∃ buf host reply draws,
      t = { s with buf := buf, host := host, reply := reply, draws := draws } := by
  cases step_kind h with
  | idle => exact ⟨_, _, _, _, rfl⟩
  | reset rest hh => exact absurd ((State.resetsNext_iff hh).2 rfl) hr
  | writeBuf => exact ⟨_, _, _, _, rfl⟩
  | readBuf => exact ⟨_, _, _, _, rfl⟩
  | readOut => exact ⟨_, _, _, _, rfl⟩
  | readOutFree => exact ⟨_, _, _, _, rfl⟩
  | readStatus => exact ⟨_, _, _, _, rfl⟩
  | ignored => exact ⟨_, _, _, _, rfl⟩
  | illegal w rest hh hf | adler32 w rest hh hf | crcinit w rest hh hf | noTable w rest hh hf
  | outside w rest hh hf | crc32 w rest hh hf | b64enc w rest hh hf =>
    have hf' := hq w ((State.issuesNext_iff hh w).2 rfl)
    rw [hf] at hf'
    cases hf'

/-- An Issue while faulted changes the model's own fields only (60_exceptions R157). -/
theorem step_of_ignored {s t : State} {w : Word} (hw : s.issuesNext w) (hf : s.faulted = true)
    (h : step s = .next t) : ∃ host, t = { s with host := host, reply := .returned } := by
  obtain ⟨rest, hh⟩ : ∃ rest, s.host = .issue w :: rest := List.head?_eq_some_iff.1 hw
  have hp : hostIssue w (s.setHost rest) = .next t := (step_action hh).symm.trans h
  rcases hostIssue_cases hp with ⟨-, rfl⟩ | ⟨hn, -⟩ | ⟨hn, -⟩
  · exact ⟨rest, rfl⟩
  · exact absurd hn (by simp [hf])
  · exact absurd hn (by simp [hf])

/-! ### Issue with no fault standing -/

/-- What issuing `w` with no fault standing makes of `s`, the action taken off and answered: one
constructor for each way of R153, the two faults of CRC32 taken together. -/
inductive Issued (s : State) (w : Word) : State → Prop where
  | illegal (why : Illegal) (hd : decode w = .illegal why) :
      Issued s w (s.raiseFault .illegalCommand w)
  | crcFault (c : Fault) (off len : BitVec 12) (hd : decode w = .command (.crc32 off len))
      (hc : s.tabv = false ∨ chunkInBounds off len = false) : Issued s w (s.raiseFault c w)
  | adler32 (hd : decode w = .command .adler32) : Issued s w s.patchAdler.complete
  | crcinit (hd : decode w = .command .crcinit) : Issued s w s.buildTable.complete
  | crc32 (off len : BitVec 12) (hd : decode w = .command (.crc32 off len)) (ht : s.tabv = true)
      (hb : chunkInBounds off len = true) : Issued s w (s.patchCrc off len).complete
  | b64enc (hd : decode w = .command .b64enc) : Issued s w s.writeText.complete

/-- `s` once the pending Issue is taken off and answered: as before but for the model's own
fields. -/
def State.taken (s : State) : State := (s.setHost s.host.tail).answer .returned

theorem step_of_issuesNext {s t : State} {w : Word} (hw : s.issuesNext w) (hf : s.faulted = false)
    (h : step s = .next t) : Issued s.taken w t := by
  obtain ⟨rest, hh⟩ : ∃ rest, s.host = .issue w :: rest := List.head?_eq_some_iff.1 hw
  have hp : hostIssue w (s.setHost rest) = .next t := (step_action hh).symm.trans h
  have hs : (s.setHost rest).answer .returned = s.taken := by rw [State.taken, hh, List.tail_cons]
  rcases hostIssue_cases hp with ⟨hn, -⟩ | ⟨-, why, hd, rfl⟩ | ⟨-, i, hd, he⟩
  · exact absurd hn (by simp [hf])
  · rw [hs]
    exact .illegal why hd
  · rw [hs] at he
    cases i with
    | adler32 => rw [exec_adler32] at he; cases he; exact .adler32 hd
    | crcinit => rw [exec_crcinit] at he; cases he; exact .crcinit hd
    | b64enc => rw [exec_b64enc] at he; cases he; exact .b64enc hd
    | crc32 off len =>
      have hw := encode_of_decode hd
      rcases exec_crc32_cases he with ⟨ht, rfl⟩ | ⟨ht, hb, rfl⟩ | ⟨ht, hb, rfl⟩
      · rw [hw]; exact .crcFault _ off len hd (.inl ht)
      · rw [hw]; exact .crcFault _ off len hd (.inr hb)
      · exact .crc32 off len hd ht hb

@[simp] theorem State.taken_outlen (s : State) : s.taken.outlen = s.outlen := rfl
@[simp] theorem State.taken_tab (s : State) : s.taken.tab = s.tab := rfl
@[simp] theorem State.taken_tabv (s : State) : s.taken.tabv = s.tabv := rfl
@[simp] theorem State.taken_faulted (s : State) : s.taken.faulted = s.faulted := rfl
@[simp] theorem State.taken_outv (s : State) : s.taken.outv = s.outv := rfl
@[simp] theorem State.taken_fcause (s : State) : s.taken.fcause = s.fcause := rfl
@[simp] theorem State.taken_finfo (s : State) : s.taken.finfo = s.finfo := rfl

/-- A step is a Reset, a quiet step, or an Issue with no fault standing. -/
theorem State.next_cases (s : State) :
    s.resetsNext ∨ (¬ s.resetsNext ∧ s.issuesNothing) ∨
      ∃ w, s.issuesNext w ∧ s.faulted = false := by
  by_cases hr : s.resetsNext
  · exact .inl hr
  · by_cases hq : s.issuesNothing
    · exact .inr (.inl ⟨hr, hq⟩)
    · have hw : ∃ w, s.issuesNext w ∧ s.faulted = false := by
        simpa [State.issuesNothing] using hq
      exact .inr (.inr hw)

/-- A predicate that holds after Reset, is kept by the quiet steps and by every Issue with no fault
standing holds after every step. -/
theorem step_induction {s t : State} {P : State → Prop} (h : step s = .next t)
    (hreset : ∀ host, P { State.reset with params := s.params, host := host, draws := s.draws })
    (hquiet : ∀ buf host reply draws,
      P { s with buf := buf, host := host, reply := reply, draws := draws })
    (hissue : ∀ w, s.faulted = false → Issued s.taken w t → P t) : P t := by
  rcases s.next_cases with hr | ⟨hr, hq⟩ | ⟨w, hw, hf⟩
  · obtain ⟨host, rfl⟩ := step_of_resetsNext hr h
    exact hreset host
  · obtain ⟨buf, host, reply, draws, rfl⟩ := step_of_issuesNothing hr hq h
    exact hquiet buf host reply draws
  · exact hissue w hf (step_of_issuesNext hw hf h)

/-! ### What an Issue with no fault standing leaves unchanged -/

variable {s t : State} {w : Word}

theorem Issued.params_eq (h : Issued s w t) : t.params = s.params := by
  cases h with
  | illegal | crcFault => exact State.raiseFault_params ..
  | adler32 | crcinit | crc32 | b64enc => simp

/-- Fault entry, or completion with the fault registers untouched (60_exceptions R155, 10_state
R32). -/
theorem Issued.fault_or_complete (h : Issued s w t) :
    (t.faulted = true ∧ (∃ c : Fault, t.fcause = c.code) ∧ t.finfo = w ∧ t.pc = s.pc) ∨
    (t.faulted = s.faulted ∧ t.fcause = s.fcause ∧ t.finfo = s.finfo ∧ t.pc = s.pc + 1) := by
  cases h with
  | illegal | crcFault => exact .inl ⟨rfl, ⟨_, State.raiseFault_fcause ..⟩, rfl, rfl⟩
  | adler32 | crcinit | crc32 | b64enc => right; simp

/-- Only B64ENC writes the output. -/
theorem Issued.output_eq (h : Issued s w t) (hw : decode w ≠ .command .b64enc) :
    (∀ j, t.outByte j = s.outByte j) ∧ t.outlen = s.outlen ∧ t.outv = s.outv := by
  cases h with
  | illegal | crcFault => exact ⟨fun _ => rfl, rfl, rfl⟩
  | adler32 | crcinit | crc32 => simp
  | b64enc hd => exact absurd hd hw

/-- Only CRCINIT writes the table. -/
theorem Issued.table_eq (h : Issued s w t) (hw : decode w ≠ .command .crcinit) :
    t.tab = s.tab := by
  cases h with
  | illegal | crcFault => rfl
  | adler32 | crc32 | b64enc => simp
  | crcinit hd => exact absurd hd hw

end Sys2Proof.Machine
end

section
/-! PROOFS. The statements of 10_state about every step, from the three ways a step goes. -/

namespace Sys2Proof.Machine

/-! ### STATUS -/

/-- The three bits of STATUS and the zeros above them (10_state R30). -/
theorem State.statusWord_bits (s : State) :
    s.statusWord.getLsbD 0 = s.tabv ∧ s.statusWord.getLsbD 1 = s.faulted ∧
    s.statusWord.getLsbD 2 = s.outv ∧ ∀ j, 3 ≤ j → s.statusWord.getLsbD j = false := by
  have hhigh : ∀ j, 3 ≤ j → s.statusWord.getLsbD j = false := fun j hj => by
    simp only [State.statusWord, BitVec.getLsbD_setWidth]
    rw [BitVec.getLsbD_of_ge _ j hj, Bool.and_false]
  refine ⟨?_, ?_, ?_, hhigh⟩ <;>
    simp only [State.statusWord, BitVec.getLsbD_setWidth, BitVec.getLsbD_append,
      BitVec.getLsbD_ofBool] <;> simp

/-- The flags after an Issue with no fault standing (10_state R30). -/
theorem Issued.flags {s t : State} {w : Word} (h : Issued s w t) (hf : s.faulted = false) :
    (t.tabv = true ↔ s.tabv = true ∨ decode w = .command .crcinit) ∧
    (t.outv = true ↔ s.outv = true ∨ decode w = .command .b64enc) ∧
    (t.faulted = true ↔ (∃ why, decode w = .illegal why) ∨
      ∃ off len, decode w = .command (.crc32 off len) ∧
        (s.tabv = false ∨ chunkInBounds off len = false)) := by
  cases h with
  | illegal why hd => simp [hd]
  | crcFault c off len hd hc => simp [hd, hc]
  | adler32 hd => simp [hd, hf]
  | crcinit hd => simp [hd, hf]
  | crc32 off len hd ht hb => simp [hd, hf, ht, hb]
  | b64enc hd => simp [hd, hf]

/-- Settles O2, one lemma for each way a step goes. -/
theorem statusFlagsSetAndClearedAsListed : Obligations.StatusFlagsSetAndClearedAsListed := by
  refine ⟨State.statusWord_bits, fun s t w hw hf h => ?_, fun s t hr h => ?_,
    fun s t hr hq h => ?_⟩
  · exact (step_of_issuesNext hw hf h).flags hf
  · obtain ⟨host, rfl⟩ := step_of_resetsNext hr h
    exact ⟨rfl, rfl, rfl⟩
  · obtain ⟨buf, host, reply, draws, rfl⟩ := step_of_issuesNothing hr hq h
    exact ⟨rfl, rfl, rfl⟩

/-! ### The fault registers -/

/-- Every step keeps the form of the fault record. -/
theorem step_keeps_faultRecord {s t : State} (hs : s.faultRecord) (h : step s = .next t) :
    t.faultRecord := by
  refine step_induction h (fun _ => .inl ⟨rfl, rfl, rfl⟩) (fun _ _ _ _ => hs) fun w _ hi => ?_
  rcases hi.fault_or_complete with ⟨hf, hc, -, -⟩ | ⟨hf, hc, hw, -⟩
  · exact .inr ⟨hf, hc⟩
  · rw [State.faultRecord, hf, hc, hw]
    exact hs

/-- FCAUSE and FINFO change in a Reset or by a first fault only (10_state R31). -/
theorem fault_registers_change {s t : State} (h : step s = .next t)
    (hne : t.fcause ≠ s.fcause ∨ t.finfo ≠ s.finfo) :
    (s.resetsNext ∧ t.fcause = 0 ∧ t.finfo = 0) ∨
    ∃ w, s.issuesNext w ∧ s.faulted = false ∧ t.faulted = true ∧ t.finfo = w := by
  rcases s.next_cases with hr | ⟨hr, hq⟩ | ⟨w, hw, hf⟩
  · obtain ⟨host, rfl⟩ := step_of_resetsNext hr h
    exact .inl ⟨hr, rfl, rfl⟩
  · obtain ⟨buf, host, reply, draws, rfl⟩ := step_of_issuesNothing hr hq h
    simp at hne
  · rcases (step_of_issuesNext hw hf h).fault_or_complete with ⟨ht, -, hi, -⟩ | ⟨-, hc, hi, -⟩
    · exact .inr ⟨w, hw, hf, ht, hi⟩
    · simp [hc, hi] at hne

/-- Settles O3. -/
theorem faultRegistersHoldTheFirstFault : Obligations.FaultRegistersHoldTheFirstFault :=
  ⟨.inl ⟨rfl, rfl, rfl⟩, fun _ _ => step_keeps_faultRecord, fun _ _ => fault_registers_change⟩

/-! ### The output -/

/-- Every step keeps `OUTLEN` at 0 with `OUTV` clear or at 3272 with `OUTV` set. -/
theorem step_keeps_outputLength {s t : State} (hs : s.outputLength) (h : step s = .next t) :
    t.outputLength := by
  refine step_induction h (fun _ => .inl ⟨rfl, rfl⟩) (fun _ _ _ _ => hs) fun w _ hi => ?_
  cases hi with
  | b64enc => exact .inr ⟨rfl, State.writeText_outlen_eq _⟩
  | illegal | crcFault => exact hs
  | adler32 | crcinit | crc32 => simpa [State.outputLength] using hs

/-- Settles O4. -/
theorem outputLengthIsZeroOrWhole : Obligations.OutputLengthIsZeroOrWhole :=
  ⟨rfl, fun s => ⟨_, exec_b64enc s, State.writeText_outlen_eq s⟩,
    fun _ _ => step_keeps_outputLength⟩

/-- Settles O7: a quiet step writes neither, an Issue only by the one command. -/
theorem outputAndTableWrittenByOneCommandEach :
    Obligations.OutputAndTableWrittenByOneCommandEach := by
  intro s t hr h
  rcases s.next_cases with hr' | ⟨-, hq⟩ | ⟨w, hw, hf⟩
  · exact absurd hr' hr
  · obtain ⟨buf, host, reply, draws, rfl⟩ := step_of_issuesNothing hr hq h
    exact ⟨fun _ => ⟨fun _ => rfl, rfl, rfl⟩, fun _ => rfl⟩
  · have hi := step_of_issuesNext hw hf h
    exact ⟨fun hn => hi.output_eq (hn w hw), fun hn => hi.table_eq (hn w hw)⟩

/-! ### The command index -/

/-- Settles O5: an Issue faults or completes, and no other action moves `pc` but Reset. -/
theorem commandIndexCountsCompletions : Obligations.CommandIndexCountsCompletions := by
  refine ⟨fun s t w hw hf h => ?_, fun s t w hw hf h ht => ?_, fun s t w hw hf h ht => ?_,
    fun s t hn hr h => ?_⟩
  · obtain ⟨host, rfl⟩ := step_of_ignored hw hf h
    rfl
  · rcases (step_of_issuesNext hw hf h).fault_or_complete with ⟨-, -, -, hpc⟩ | ⟨hn, -, -, -⟩
    · exact hpc
    · simp [ht, hf] at hn
  · rcases (step_of_issuesNext hw hf h).fault_or_complete with ⟨hn, -, -, -⟩ | ⟨-, -, -, hpc⟩
    · simp [ht] at hn
    · exact hpc
  · obtain ⟨buf, host, reply, draws, rfl⟩ :=
      step_of_issuesNothing hr (fun w hw => absurd hw (hn w)) h
    rfl

/-! ### BUF -/

/-- A byte that an Issue with no fault standing changes lies in the Adler-32 field or in the trailer
of the CRC32's chunk (10_state R21). -/
theorem Issued.changed_byte {s t : State} {w : Word} {x : Nat} (h : Issued s w t)
    (hx : t.bufByte x ≠ s.bufByte x) :
    (decode w = .command .adler32 ∧ s.adlerOff ≤ x ∧ x < s.adlerOff + 4) ∨
    ∃ off len, decode w = .command (.crc32 off len) ∧ s.tabv = true ∧
      chunkInBounds off len = true ∧ off.toNat + len.toNat - 4 ≤ x ∧
      x < off.toNat + len.toNat := by
  cases h with
  | illegal | crcFault | crcinit | b64enc => simp at hx
  | adler32 hd =>
    have hin : s.adlerOff ≤ x ∧ x < s.adlerOff + 4 := by
      by_contra hout
      exact hx (s.patchAdler_bufByte_outside x (by omega))
    exact .inl ⟨hd, hin⟩
  | crc32 off len hd ht hb =>
    have hin : trailerAddr off len ≤ x ∧ x < trailerAddr off len + 4 := by
      by_contra hout
      exact hx (s.patchCrc_bufByte_outside off len x (by omega))
    obtain ⟨hlen, -⟩ := (chunkInBounds_iff off len).1 hb
    unfold trailerAddr at hin
    exact .inr ⟨off, len, hd, ht, hb, hin.1, by omega⟩

/-- Settles O6. -/
theorem commandsWriteBufOnlyInTwoPlaces : Obligations.CommandsWriteBufOnlyInTwoPlaces := by
  intro s t w x hw h hx
  cases hf : s.faulted with
  | true =>
    obtain ⟨host, rfl⟩ := step_of_ignored hw hf h
    exact absurd rfl hx
  | false => exact (step_of_issuesNext hw hf h).changed_byte hx

/-! ### The parameters and the table -/

/-- Settles O9. -/
theorem parametersAreNeverChanged : Obligations.ParametersAreNeverChanged := by
  intro s t h
  exact step_induction (P := fun t => t.params = s.params) h (fun _ => rfl) (fun _ _ _ _ => rfl)
    fun _ _ hi => hi.params_eq

/-- Settles O32: CRCINIT builds the table, and no other Issue touches it or `TABV`. -/
theorem tableStaysBuilt : Obligations.TableStaysBuilt := by
  intro s t hs h
  refine step_induction h (fun _ hv => by cases hv) (fun _ _ _ _ => hs) fun w _ hi => ?_
  cases hi with
  | crcinit => exact fun _ => rfl
  | illegal | crcFault => exact hs
  | adler32 | crc32 | b64enc => simpa [State.tableBuilt] using hs

/-! ### Refusals -/

/-- Settles O50: by the host's next action, and for an access by its address. -/
theorem onlyAccessesOutsideAMemoryAreRefused :
    Obligations.OnlyAccessesOutsideAMemoryAreRefused := by
  intro s
  cases hh : s.host with
  | nil => exact .inl ⟨s, step_idle hh, by simp [State.accessOutside, hh]⟩
  | cons act rest =>
    rw [step_action hh]
    simp only [State.accessOutside, hh, List.head?_cons, Option.some.injEq]
    cases act with
    | reset => exact .inl ⟨_, rfl, by simp⟩
    | readStatus => exact .inl ⟨_, rfl, by simp⟩
    | issue w =>
      obtain ⟨t, ht⟩ := hostIssue_next w (s.setHost rest)
      exact .inl ⟨t, ht, by simp⟩
    | writeBuf a v =>
      by_cases ha : a < 2444
      · exact .inl ⟨_, if_pos ha, by simp; omega⟩
      · exact .inr ⟨_, if_neg ha, .inl ⟨a, v, rfl, by omega, rfl⟩⟩
    | readBuf a =>
      by_cases ha : a < 2444
      · exact .inl ⟨_, if_pos ha, by simp; omega⟩
      · exact .inr ⟨_, if_neg ha, .inr (.inl ⟨a, rfl, by omega, rfl⟩)⟩
    | readOut i =>
      by_cases hi : i < 3272
      · have hn : ∃ t, hostReadOut i (s.setHost rest) = .next t := by
          simp only [hostReadOut, if_pos hi]
          split <;> exact ⟨_, rfl⟩
        obtain ⟨t, ht⟩ := hn
        exact .inl ⟨t, ht, by simp; omega⟩
      · exact .inr ⟨_, if_neg hi, .inr (.inr ⟨i, rfl, by omega, rfl⟩)⟩

/-! ### The reset state -/

/-- Settles O1: nothing is listed in `BUF`, so every byte is the template's. -/
theorem resetLeavesTheStatedValues : Obligations.ResetLeavesTheStatedValues := by
  refine ⟨fun a ha => ?_, rfl, rfl, rfl, rfl, rfl, rfl, rfl, rfl⟩
  calc State.reset.bufByte a = templateByte defaultParams a := Memory.read_nil _ a
    _ = Config.template[a] := dif_pos ha

/-- Settles O58. -/
theorem invariantsHoldAtReset : Obligations.InvariantsHoldAtReset := by
  have hmem : State.reset.memoriesCanonical := ⟨State.reset_bufWf, State.reset_outWf⟩
  have htab : State.reset.tableBuilt := fun hv => by cases hv
  have htext : State.reset.outputText := fun hv => by cases hv
  exact ⟨hmem, htab, .inl ⟨rfl, rfl⟩, .inl ⟨rfl, rfl, rfl⟩, htext⟩

end Sys2Proof.Machine
end

section
/-! PROOFS. How many characters the base64 unit writes: four for every three input bytes begun
(42_base64 R136), the characters themselves where `b64Run_optr` is about `OPTR`. -/

namespace Sys2Proof.Machine

@[simp] theorem groupChars_length (g : BitVec 24) : (groupChars g).length = 4 := rfl

/-- The third byte of a group: its four characters come first. -/
theorem b64Loop_cons_full_text {r : B64Regs} (h : r.cnt.toNat = 2) (d : Byte) (ds : List Byte) :
    (b64Loop r (d :: ds)).2 =
      groupChars (b64Push r d).g ++ (b64Loop ⟨0, 0, r.optr + 4⟩ ds).2 := by
  have hfull : (b64Push r d).cnt = 3 :=
    BitVec.eq_of_toNat_eq (by rw [b64Push_cnt_toNat r d (by omega), h]; rfl)
  have hoptr : (b64Push r d).optr = r.optr := rfl
  simp only [b64Loop, hfull, hoptr, if_true]

/-- The loop of R139 writes four characters for each full group. -/
theorem b64Loop_text_length (r : B64Regs) (ds : List Byte) (h : r.cnt.toNat < 3) :
    (b64Loop r ds).2.length = 4 * ((r.cnt.toNat + ds.length) / 3) := by
  induction ds generalizing r with
  | nil =>
    show 0 = 4 * (r.cnt.toNat / 3)
    omega
  | cons d ds ih =>
    rw [List.length_cons]
    by_cases hfull : r.cnt.toNat = 2
    · have hrest : (b64Loop ⟨0, 0, r.optr + 4⟩ ds).2.length = 4 * ((0 + ds.length) / 3) :=
        ih ⟨0, 0, r.optr + 4⟩ (by simp)
      rw [b64Loop_cons_full_text hfull, List.length_append, groupChars_length, hrest]
      omega
    · have hcnt := b64Push_cnt_toNat r d h
      rw [b64Loop_cons_held (by omega), ih (b64Push r d) (by omega), hcnt]
      omega

/-- The tail of R139 writes four characters when a byte is held, else none. -/
theorem b64Tail_text_length (r : B64Regs) (h : r.cnt.toNat < 3) :
    (b64Tail r).2.length = if r.cnt.toNat = 0 then 0 else 4 := by
  have hcnt : ∀ c : BitVec 2, c.toNat < 3 → c = 0 ∨ c = 1 ∨ c = 2 := by decide
  unfold b64Tail
  rcases hcnt r.cnt h with hc | hc | hc <;> simp [hc]

theorem b64Run_text_length (ds : List Byte) :
    (b64Run ds).2.length = 4 * ((ds.length + 2) / 3) := by
  have hstart : b64Start.cnt.toNat = 0 := rfl
  have hcnt := (b64Loop_counts b64Start ds (by decide)).1
  have hbody := b64Loop_text_length b64Start ds (by decide)
  have htail := b64Tail_text_length (b64Loop b64Start ds).1 (by omega)
  have hrun : (b64Run ds).2 = (b64Loop b64Start ds).2 ++ (b64Tail (b64Loop b64Start ds).1).2 := rfl
  rw [hrun, List.length_append, hbody, htail, hcnt, hstart, Nat.zero_add]
  split <;> omega

/-- The text of B64ENC fills `OUT` exactly, so the canonical form is kept. -/
theorem State.writeText_outWf {s : State} (hs : s.outWf) : s.writeText.outWf := by
  have hlen : (b64Run s.srcStream).2.length = 3272 := by
    rw [b64Run_text_length, State.srcStream_length]
    rfl
  have hw : ∀ r : B64Regs × List Byte, r.2.length = 3272 → (s.storeText r).outWf := fun r hr =>
    Memory.write_wf hs 0 r.2 (by rw [hr])
  exact hw _ hlen

end Sys2Proof.Machine
end

section
/-! PROOFS. The statements of 20_memory: the canonical form, big-endian fields, the default
layout. -/

namespace Sys2Proof.Machine

/-! ### The canonical form -/

/-- The canonical form speaks of `BUF`, `OUT` and the parameters only. -/
theorem State.memoriesCanonical_congr {s t : State} (hs : s.memoriesCanonical)
    (hbuf : t.buf = s.buf) (hout : t.out = s.out) (hparams : t.params = s.params) :
    t.memoriesCanonical := by
  rwa [State.memoriesCanonical, State.bufWf, State.outWf, hbuf, hout, hparams]

section
variable {s : State}

theorem State.complete_memoriesCanonical (hs : s.memoriesCanonical) :
    s.complete.memoriesCanonical := hs

/-- ADLER32 writes inside `BUF` and leaves `OUT` alone. -/
theorem State.patchAdler_memoriesCanonical (hs : s.memoriesCanonical) :
    s.patchAdler.memoriesCanonical := by
  obtain ⟨hbuf, hout⟩ := hs
  refine ⟨State.patchAdler_bufWf hbuf, ?_⟩
  rwa [State.outWf, State.patchAdler_out]

/-- CRCINIT touches neither memory. -/
theorem State.buildTable_memoriesCanonical (hs : s.memoriesCanonical) :
    s.buildTable.memoriesCanonical := hs

/-- A CRC32 that passes its checks writes inside `BUF` and leaves `OUT` alone. -/
theorem State.patchCrc_memoriesCanonical (hs : s.memoriesCanonical) {off len : BitVec 12}
    (hb : chunkInBounds off len = true) : (s.patchCrc off len).memoriesCanonical := by
  obtain ⟨hbuf, hout⟩ := hs
  refine ⟨State.patchCrc_bufWf hbuf hb, ?_⟩
  rwa [State.outWf, State.patchCrc_out]

/-- B64ENC writes inside `OUT` and leaves `BUF` alone. -/
theorem State.writeText_memoriesCanonical (hs : s.memoriesCanonical) :
    s.writeText.memoriesCanonical := by
  obtain ⟨hbuf, hout⟩ := hs
  refine ⟨?_, State.writeText_outWf hout⟩
  rwa [State.bufWf, State.writeText_buf, State.writeText_params]

end

/-- Settles O12: WriteBuf, ADLER32, CRC32 and B64ENC write inside their memory, Reset empties both,
and no other step touches either. -/
theorem memoriesStayCanonical : Obligations.MemoriesStayCanonical := by
  intro s t hs h
  have htaken : ∀ rest, ((s.setHost rest).answer .returned).memoriesCanonical := fun _ =>
    State.memoriesCanonical_congr hs rfl rfl rfl
  cases step_kind h with
  | reset => exact ⟨Memory.wf_nil _ _, Memory.wf_nil _ _⟩
  | writeBuf a v rest _ ha =>
    obtain ⟨hbuf, hout⟩ := hs
    exact ⟨State.bufWrite_bufWf hbuf a [v] ha, hout⟩
  | adler32 _ rest =>
    exact State.complete_memoriesCanonical (State.patchAdler_memoriesCanonical (htaken rest))
  | crcinit _ rest =>
    exact State.complete_memoriesCanonical (State.buildTable_memoriesCanonical (htaken rest))
  | crc32 _ rest _ _ _ _ _ _ hb =>
    exact State.complete_memoriesCanonical (State.patchCrc_memoriesCanonical (htaken rest) hb)
  | b64enc _ rest =>
    exact State.complete_memoriesCanonical (State.writeText_memoriesCanonical (htaken rest))
  | idle | readBuf | readOut | readOutFree | readStatus | ignored | illegal | noTable | outside =>
    exact State.memoriesCanonical_congr hs rfl rfl rfl

/-! ### Big-endian fields -/

theorem bigEndian_concat (bs : List Byte) (b : Byte) :
    bigEndian (bs ++ [b]) = bigEndian bs * 256 + b.toNat := by
  simp [bigEndian]

/-- The bytes of a number, most significant first, stand for the number modulo `256 ^ k`. -/
theorem bigEndian_shifts (k n : Nat) :
    bigEndian ((List.range k).map fun j => BitVec.ofNat 8 (n >>> (8 * (k - 1 - j)))) =
      n % 256 ^ k := by
  induction k generalizing n with
  | zero => simp [bigEndian, Nat.mod_one]
  | succ k ih =>
    have hhigh : ((List.range k).map fun j => BitVec.ofNat 8 (n >>> (8 * (k + 1 - 1 - j)))) =
        (List.range k).map fun j => BitVec.ofNat 8 ((n >>> 8) >>> (8 * (k - 1 - j))) := by
      refine List.map_congr_left fun j hj => ?_
      have hj := List.mem_range.1 hj
      rw [← Nat.shiftRight_add]
      congr 2
      omega
    have hshift : n >>> 8 = n / 256 := Nat.shiftRight_eq_div_pow n 8
    have hlow : (BitVec.ofNat 8 (n >>> (8 * (k + 1 - 1 - k)))).toNat = n % 256 := by simp
    rw [List.range_succ, List.map_append, List.map_singleton, bigEndian_concat, hhigh, hlow, ih,
      Nat.pow_succ', Nat.mod_mul, hshift]
    omega

theorem bigEndian_bytesOf (k : Nat) (v : BitVec (8 * k)) : bigEndian (bytesOf k v) = v.toNat := by
  have hlt : v.toNat < 256 ^ k := by
    have := v.isLt
    rwa [Nat.pow_mul] at this
  exact (bigEndian_shifts k v.toNat).trans (Nat.mod_eq_of_lt hlt)

/-- `MemRead` undoes `MemWrite`, for every field size (20_memory R53). -/
theorem State.memRead_memWrite (s : State) (a k : Nat) (v : BitVec (8 * k)) :
    (s.memWrite a k v).memRead a k = v := by
  have hbytes : ((List.range k).map fun j => (s.memWrite a k v).bufByte (a + j)) = bytesOf k v :=
    List.map_congr_left fun j hj => s.bufByte_memWrite_inside a k v j (List.mem_range.1 hj)
  rw [State.memRead, hbytes, bigEndian_bytesOf, BitVec.ofNat_toNat, BitVec.setWidth_eq]

/-- Settles O10: byte `j` of the field for `j < 4`, and the general law of `MemRead`. -/
theorem multiByteFieldsAreBigEndian : Obligations.MultiByteFieldsAreBigEndian := by
  intro s p v
  have hbyte : ∀ j, j < 4 → (s.memWrite p 4 v).bufByte (p + j) =
      v.extractLsb' (8 * (4 - 1 - j)) 8 :=
    s.bufByte_memWrite_inside p 4 v
  exact ⟨hbyte 0 (by decide), hbyte 1 (by decide), hbyte 2 (by decide), hbyte 3 (by decide),
    s.memRead_memWrite p 4 v⟩

/-! ### The default layout -/

/-- The five runs of template constants between the placeholder regions (20_memory R59). -/
def constantRuns : List Nat :=
  List.range' 0 21 ++ List.range' 25 8 ++ List.range' 43 8 ++ List.range' 57 15 ++
  List.range' 2432 8

theorem mem_constantRuns (a : Nat) : a ∈ constantRuns ↔ isTemplateConstant a = true := by
  simp only [constantRuns, isTemplateConstant, isPlaceholder, bufSize, List.mem_append,
    List.mem_range'_1, Bool.and_eq_true, Bool.not_eq_true', Bool.or_eq_false_iff,
    Bool.and_eq_false_iff, decide_eq_true_eq, decide_eq_false_iff_not]
  omega

theorem constantRuns_nodup : constantRuns.Nodup := by decide

theorem length_filter_isTemplateConstant :
    ((List.range 2444).filter isTemplateConstant).length = 60 := by
  have hmem : ∀ a, a ∈ (List.range 2444).filter isTemplateConstant ↔ a ∈ constantRuns := by
    intro a
    have hlt : isTemplateConstant a = true → a < 2444 := by
      simp only [isTemplateConstant, Bool.and_eq_true, decide_eq_true_eq]
      exact And.left
    simpa [mem_constantRuns] using hlt
  have hperm := (List.perm_ext_iff_of_nodup (List.nodup_range.filter _) constantRuns_nodup).2 hmem
  exact hperm.length_eq

/-- The placeholders are the addresses of `BUF` that are no template constants. -/
theorem length_filter_isPlaceholder :
    ((List.range 2444).filter isPlaceholder).length = 2384 := by
  have hrest : (List.range 2444).filter (fun a => !isPlaceholder a) =
      (List.range 2444).filter isTemplateConstant :=
    List.filter_congr fun a ha => by
      have ha := List.mem_range.1 ha
      simp [isTemplateConstant, ha]
  have hsum := List.length_eq_length_filter_add (l := List.range 2444) isPlaceholder
  rw [hrest, length_filter_isTemplateConstant, List.length_range] at hsum
  omega

/-- Settles O11. -/
theorem layoutHasSixtyTemplateConstants : Obligations.LayoutHasSixtyTemplateConstants :=
  ⟨length_filter_isTemplateConstant, length_filter_isPlaceholder, rfl, rfl, rfl⟩

end Sys2Proof.Machine
end

section
/-! PROOFS. The decoder and the encoder as inverses (30_encoding R81), and from that the rows of
R73, the illegal words of R74 and the operands of R72. -/

namespace Sys2Proof

/-! ### Decoding, one equation for each format -/

theorem decode_of_opField_three {w : Word} (h : opField w = 3) :
    decode w = .command (.crc32 (aField w) (bField w)) := by
  simp [decode, h]

/-- Both operand fields of a format-Z word are zero, so only its opcode is looked at. -/
theorem decode_packWord_zero (op : BitVec 8) : decode (packWord op 0 0) =
    if op = 1 then .command .adler32
    else if op = 2 then .command .crcinit
    else if op = 3 then .command (.crc32 0 0)
    else if op = 4 then .command .b64enc
    else .illegal .opcode := by
  simp [decode, formatZ, opField_packWord, aField_packWord, bField_packWord]

/-- The decoder undoes the encoder on every command. -/
theorem decode_encode (i : Instr) : decode (encode i) = .command i := by
  cases i with
  | adler32 => exact decode_packWord_zero 1
  | crcinit => exact decode_packWord_zero 2
  | b64enc => exact decode_packWord_zero 4
  | crc32 off len =>
    have h := decode_of_opField_three (opField_packWord 3 off len)
    rwa [aField_packWord, bField_packWord] at h

theorem decode_eq_command_iff {w : Word} {i : Instr} : decode w = .command i ↔ encode i = w := by
  constructor
  · exact encode_of_decode
  · rintro rfl
    exact decode_encode i

/-- Settles O16. -/
theorem encodeAndDecodeAreInverse : Obligations.EncodeAndDecodeAreInverse :=
  ⟨decode_encode, fun _ _ => encode_of_decode⟩

/-! ### The rows of the opcode map -/

/-- Format R's mask keeps the opcode (30_encoding R73). -/
theorem opField_and_mask (w : Word) : opField (w &&& 0xFF000000) = opField w := by
  have hmask : (0xFF000000 : Word).extractLsb' 24 8 = BitVec.allOnes 8 := by decide
  rw [opField, BitVec.extractLsb'_and, hmask, BitVec.and_allOnes, opField]

/-- A row of format Z has the full mask, so it selects one word. -/
theorem decode_formatZ_row {i : Instr} {w m : Word} (h : encode i = m) :
    decode w = .command i ↔ w &&& 0xFFFFFFFF = m := by
  have hand : w &&& 0xFFFFFFFF = w := BitVec.and_allOnes
  rw [decode_eq_command_iff, h, hand, eq_comm]

/-- The row of CRC32 has the mask of the opcode alone, so it selects every operand. -/
theorem decode_crc32_row {w : Word} :
    (∃ off len, decode w = .command (.crc32 off len)) ↔ w &&& 0xFF000000 = 0x03000000 := by
  constructor
  · rintro ⟨off, len, h⟩
    rw [← encode_of_decode h]
    exact Laws.RowSelected.crc32 off len
  · intro h
    have hop : opField w = 3 := by
      rw [← opField_and_mask, h]
      decide
    exact ⟨_, _, decode_of_opField_three hop⟩

/-- Settles O17. -/
theorem decoderSelectsTheMatchingRow : Obligations.DecoderSelectsTheMatchingRow := fun _ =>
  ⟨decode_formatZ_row (by decide), decode_formatZ_row (by decide), decode_crc32_row,
    decode_formatZ_row (by decide)⟩

/-! ### The operands -/

/-- Settles O19: with opcode 3 the decoder looks at no operand field. -/
theorem operandsAreTheWordsBits : Obligations.OperandsAreTheWordsBits := by
  intro w h
  have hop : opField w = 3 := BitVec.eq_of_toNat_eq (by rw [opField_toNat, h]; rfl)
  exact ⟨_, _, decode_of_opField_three hop, aField_toNat w, bField_toNat w⟩

/-! ### The illegal words -/

theorem encode_crc32_toNat (off len : BitVec 12) :
    (encode (.crc32 off len)).toNat = 0x03000000 + off.toNat * 4096 + len.toNat :=
  packWord_toNat 3 off len

/-- The legal words: any word with opcode 3, and the three words of format Z. -/
theorem exists_decode_command_iff (w : Word) : (∃ i, decode w = .command i) ↔
    w.toNat / 2 ^ 24 = 3 ∨ w = 0x01000000 ∨ w = 0x02000000 ∨ w = 0x04000000 := by
  constructor
  · rintro ⟨i, h⟩
    rw [← encode_of_decode h]
    cases i with
    | adler32 => exact .inr (.inl rfl)
    | crcinit => exact .inr (.inr (.inl rfl))
    | b64enc => exact .inr (.inr (.inr rfl))
    | crc32 off len =>
      left
      rw [encode_crc32_toNat]
      omega
  · rintro (h | rfl | rfl | rfl)
    · obtain ⟨off, len, hd, -⟩ := operandsAreTheWordsBits w h
      exact ⟨_, hd⟩
    · exact ⟨_, decode_encode .adler32⟩
    · exact ⟨_, decode_encode .crcinit⟩
    · exact ⟨_, decode_encode .b64enc⟩

theorem exists_decode_illegal_iff (w : Word) :
    (∃ why, decode w = .illegal why) ↔ ¬ ∃ i, decode w = .command i := by
  cases decode w <;> simp

end Sys2Proof
end

section
/-! PROOFS. What the machine makes of the words of 30_encoding: an illegal word issued (R74), the
worked encodings (R80), and the assembler (R77, R78). -/

namespace Sys2Proof.Machine

/-- Issue of an illegal word with no fault standing (60_exceptions R153). -/
theorem hostIssue_illegal {w : Word} {s : State} {why : Illegal} (hf : s.faulted = false)
    (hd : decode w = .illegal why) :
    hostIssue w s = .next ((s.answer .returned).raiseFault .illegalCommand w) := by
  simp [hostIssue, hf, hd]

/-- Settles O18: a word is illegal when it is none of the legal numbers, and its `Issue` stops at
the decoder. -/
theorem illegalWordsRaiseIllegalCommand : Obligations.IllegalWordsRaiseIllegalCommand := by
  constructor
  · intro w
    rw [exists_decode_illegal_iff, exists_decode_command_iff]
    bv_omega
  · intro s w rest why hh hf hd
    have hf' : (s.setHost rest).faulted = false := by rw [State.setHost_faulted, hf]
    exact (step_action hh).trans (hostIssue_illegal hf' hd)

/-! ### The assembler -/

theorem sourceLine_crc32_wellFormed_iff (off len : Nat) :
    SourceLine.wellFormed ⟨.crc32, [off, len]⟩ = true ↔ off < 4096 ∧ len < 4096 := by
  simp [SourceLine.wellFormed, SourceLine.arityOk, SourceLine.operandsFit]

/-- The word of a CRC32 whose operands fit, as the sum of its fields. -/
theorem encode_crc32_ofNat {off len : Nat} (hoff : off < 4096) (hlen : len < 4096) :
    encode (.crc32 (BitVec.ofNat 12 off) (BitVec.ofNat 12 len)) =
      BitVec.ofNat 32 (0x03000000 + off * 4096 + len) := by
  apply BitVec.eq_of_toNat_eq
  simp only [encode_crc32_toNat, BitVec.toNat_ofNat]
  omega

/-- Settles O20: the only check is that both operands fit, and then the fields do not overlap. -/
theorem assemblerRejectsOperandsThatDoNotFit :
    Obligations.AssemblerRejectsOperandsThatDoNotFit := by
  intro m off len
  by_cases h : off < 4096 ∧ len < 4096
  · have hword := encode_crc32_ofNat h.1 h.2
    rw [if_pos h, assembleSource, if_pos ((sourceLine_crc32_wellFormed_iff off len).2 h), ← hword]
    rfl
  · rw [if_neg h, assembleSource, if_neg (mt (sourceLine_crc32_wellFormed_iff off len).1 h)]

/-- Settles O15, by running the assembler on the seven lines. -/
theorem pseudoInstructionsExpandAsListed : Obligations.PseudoInstructionsExpandAsListed := by
  unfold Obligations.PseudoInstructionsExpandAsListed
  decide

/-! ### Words written out -/

/-- Settles O13, by running the decoder on the ten words. -/
theorem writtenOutWordsDecode : Obligations.WrittenOutWordsDecode := by
  unfold Obligations.WrittenOutWordsDecode
  decide

/-- Settles O14: `CRC32 0, 0` decodes, and fails the bounds check of 41_crc32 R117. -/
theorem workedEncodings : Obligations.WorkedEncodings := by
  have hword : encode (.crc32 0 0) = 0x03000000 := by decide
  have hzero : ∀ s : State, s.tabv = true → ∃ t, exec (.crc32 0 0) s = .next t ∧
      t.faulted = true ∧ t.fcause = 3 ∧ t.finfo = 0x03000000 := fun s hs =>
    ⟨_, exec_crc32_outside hs (by decide), rfl, rfl, hword⟩
  refine ⟨?_, ?_, ?_, hzero, ?_, ?_, ?_⟩ <;> decide

end Sys2Proof.Machine
end

section
/-! PROOFS. The Adler-32 unit (40_adler32 R90 to R96): what one byte does to the registers, the
bounds through a batch (R94), and the unit against the recurrences on natural numbers (R95). -/

namespace Sys2Proof.Machine

/-! ### One byte -/

theorem adlerAdd_n_eq_zero_iff (r : AdlerRegs) (d : Byte) : (adlerAdd r d).n = 0 ↔ r.n = 1 :=
  sub_eq_zero

theorem adlerAccumulate_of_n_ne_one {r : AdlerRegs} (h : r.n ≠ 1) (d : Byte) :
    adlerAccumulate r d = adlerAdd r d :=
  if_neg (mt (adlerAdd_n_eq_zero_iff r d).1 h)

theorem adlerAccumulate_of_n_eq_one {r : AdlerRegs} (h : r.n = 1) (d : Byte) :
    adlerAccumulate r d = adlerBatch (adlerAdd r d) :=
  if_pos ((adlerAdd_n_eq_zero_iff r d).2 h)

@[simp] theorem adlerReduce_s1_toNat (r : AdlerRegs) :
    (adlerReduce r).s1.toNat = r.s1.toNat % 65521 := rfl

@[simp] theorem adlerReduce_s2_toNat (r : AdlerRegs) :
    (adlerReduce r).s2.toNat = r.s2.toNat % 65521 := rfl

@[simp] theorem adlerBatch_s1_toNat (r : AdlerRegs) :
    (adlerBatch r).s1.toNat = r.s1.toNat % 65521 := rfl

@[simp] theorem adlerBatch_s2_toNat (r : AdlerRegs) :
    (adlerBatch r).s2.toNat = r.s2.toNat % 65521 := rfl

theorem adlerReduce_le (r : AdlerRegs) :
    (adlerReduce r).s1.toNat ≤ 65520 ∧ (adlerReduce r).s2.toNat ≤ 65520 := by
  simp only [adlerReduce_s1_toNat, adlerReduce_s2_toNat]
  omega

theorem adlerBatch_le (r : AdlerRegs) :
    (adlerBatch r).s1.toNat ≤ 65520 ∧ (adlerBatch r).s2.toNat ≤ 65520 :=
  adlerReduce_le r

/-- `k` bytes into a batch, the next byte is its last or the batch goes on. -/
theorem adlerAccumulate_cases {r : AdlerRegs} {k : Nat} (hk : k < 5552)
    (hn : r.n.toNat = 5552 - k) (d : Byte) :
    (k = 5551 ∧ adlerAccumulate r d = adlerBatch (adlerAdd r d)) ∨
    (k + 1 < 5552 ∧ adlerAccumulate r d = adlerAdd r d) := by
  by_cases h : r.n = 1
  · exact .inl ⟨by bv_omega, adlerAccumulate_of_n_eq_one h d⟩
  · exact .inr ⟨by bv_omega, adlerAccumulate_of_n_ne_one h d⟩

/-- `N` counts down the bytes left in the batch, which starts again at 5552 (R92, R93). -/
theorem adlerAccumulate_n_toNat {r : AdlerRegs} {k : Nat} (hk : k < 5552)
    (hn : r.n.toNat = 5552 - k) (d : Byte) :
    (adlerAccumulate r d).n.toNat = 5552 - (k + 1) % 5552 := by
  obtain ⟨rfl, hacc⟩ | ⟨hnext, hacc⟩ := adlerAccumulate_cases hk hn d
  · rw [hacc]
    rfl
  · have hdown : (adlerAdd r d).n = r.n - 1 := rfl
    rw [hacc, hdown, Nat.mod_eq_of_lt hnext]
    bv_omega

theorem foldl_adlerAccumulate_n_toNat (ds : List Byte) :
    (ds.foldl adlerAccumulate adlerStart).n.toNat = 5552 - ds.length % 5552 := by
  induction ds using List.reverseRecOn with
  | nil => rfl
  | append_singleton ds d ih =>
    rw [List.foldl_concat, adlerAccumulate_n_toNat (Nat.mod_lt _ (by decide)) ih, Nat.mod_add_mod,
      List.length_append, List.length_singleton]

/-- Settles O21: the two cases of R92's test of `N`, and the count of bytes since the last
reduction. -/
theorem adlerBatchReductionEvery5552 : Obligations.AdlerBatchReductionEvery5552 := by
  refine ⟨fun r d h => adlerAccumulate_of_n_ne_one h d, fun r d h => ?_,
    foldl_adlerAccumulate_n_toNat⟩
  rw [adlerAccumulate_of_n_eq_one h]
  exact ⟨rfl, adlerBatch_le _⟩

/-! ### The bounds through a batch -/

/-- The bounds of R94 on both sums after `k` bytes of a batch. -/
def AdlerRegs.boundedAfter (k : Nat) (r : AdlerRegs) : Prop :=
  r.s1.toNat ≤ 65520 + 255 * k ∧
  r.s2.toNat ≤ 65520 + 65520 * k + 255 * k * (k + 1) / 2

theorem adlerTriangle_succ (k : Nat) :
    255 * (k + 1) * (k + 1 + 1) / 2 = 255 * k * (k + 1) / 2 + 255 * (k + 1) := by
  rw [← Nat.add_mul_div_right _ _ Nat.two_pos]
  ring_nf

theorem adlerTriangle_le {k : Nat} (hk : k ≤ 5552) :
    255 * k * (k + 1) / 2 ≤ 255 * 5552 * (5552 + 1) / 2 := by
  gcongr

/-- One byte of the exact sums on natural numbers (R94). -/
def adlerExactStep (p : Nat × Nat) (d : Byte) : Nat × Nat :=
  (p.1 + d.toNat, p.2 + (p.1 + d.toNat))

/-- The two sums as natural numbers. -/
def AdlerRegs.sums (r : AdlerRegs) : Nat × Nat := (r.s1.toNat, r.s2.toNat)

section
variable {r : AdlerRegs} {k : Nat} (hr : r.boundedAfter k) (hk : k < 5552) (d : Byte)
include hr hk

/-- Within a batch neither addition of R92 wraps. -/
theorem adlerAdd_sums : (adlerAdd r d).sums = adlerExactStep r.sums d := by
  obtain ⟨h1, h2⟩ := hr
  have hd : d.toNat < 256 := d.isLt
  have ht := adlerTriangle_succ k
  have hmax := adlerTriangle_le (k := k + 1) hk
  have hs1 : (adlerAdd r d).s1.toNat = r.s1.toNat + d.toNat := by
    simp only [adlerAdd, BitVec.toNat_add, BitVec.toNat_setWidth]
    omega
  have hs2 : (adlerAdd r d).s2.toNat = r.s2.toNat + (r.s1.toNat + d.toNat) := by
    have hdef : (adlerAdd r d).s2 = r.s2 + (adlerAdd r d).s1 := rfl
    rw [hdef, BitVec.toNat_add, hs1]
    omega
  exact Prod.ext hs1 hs2

theorem adlerAdd_boundedAfter : (adlerAdd r d).boundedAfter (k + 1) := by
  have hsums := adlerAdd_sums hr hk d
  obtain ⟨h1, h2⟩ := hr
  have hd : d.toNat < 256 := d.isLt
  have ht := adlerTriangle_succ k
  have hs1 : (adlerAdd r d).s1.toNat = r.s1.toNat + d.toNat := congrArg Prod.fst hsums
  have hs2 : (adlerAdd r d).s2.toNat = r.s2.toNat + (r.s1.toNat + d.toNat) :=
    congrArg Prod.snd hsums
  constructor <;> omega

end

/-- Up to 5552 bytes from sums below the modulus: the registers hold the exact sums, inside
the bounds. -/
theorem foldl_adlerAdd_exact {r : AdlerRegs} (hr : r.boundedAfter 0) (ds : List Byte)
    (hds : ds.length ≤ 5552) :
    (ds.foldl adlerAdd r).sums = ds.foldl adlerExactStep r.sums ∧
    (ds.foldl adlerAdd r).boundedAfter ds.length := by
  induction ds using List.reverseRecOn with
  | nil => exact ⟨rfl, hr⟩
  | append_singleton ds d ih =>
    rw [List.length_append, List.length_singleton] at hds ⊢
    obtain ⟨hsums, hbound⟩ := ih (by omega)
    rw [List.foldl_concat, List.foldl_concat, adlerAdd_sums hbound hds, hsums]
    exact ⟨rfl, adlerAdd_boundedAfter hbound hds d⟩

/-- Settles O22: by induction on the bytes of the batch; the rest is R94's arithmetic. -/
theorem adlerSumsNeverOverflowInABatch : Obligations.AdlerSumsNeverOverflowInABatch := by
  refine ⟨by decide, adlerBatch_le, fun r ds h1 h2 hds => ?_, by decide, by decide, by decide,
    by decide⟩
  obtain ⟨hsums, hb1, hb2⟩ := foldl_adlerAdd_exact (r := r) ⟨h1, h2⟩ ds hds
  exact ⟨congrArg Prod.fst hsums, congrArg Prod.snd hsums, hb1, hb2⟩

/-! ### The unit against the recurrences -/

theorem adlerSums_concat (ds : List Byte) (d : Byte) :
    adlerSums (ds ++ [d]) = adlerSumStep (adlerSums ds) d := List.foldl_concat ..

/-- Both sums modulo 65521, the residues R90 keeps. -/
def adlerResidues (p : Nat × Nat) : Nat × Nat := (p.1 % 65521, p.2 % 65521)

/-- Reducing before a byte or after it gives the same residues (R95). -/
theorem adlerSumStep_residues (p : Nat × Nat) (d : Byte) :
    adlerSumStep (adlerResidues p) d = adlerResidues (adlerExactStep p d) := by
  simp [adlerSumStep, adlerResidues, adlerExactStep]

/-- A batch reduction does not change the residues. -/
theorem adlerBatch_residues (r : AdlerRegs) :
    adlerResidues (adlerBatch r).sums = adlerResidues r.sums := by
  simp [adlerResidues, AdlerRegs.sums]

theorem adlerAccumulate_residues (r : AdlerRegs) (d : Byte) :
    adlerResidues (adlerAccumulate r d).sums = adlerResidues (adlerAdd r d).sums := by
  by_cases h : r.n = 1
  · rw [adlerAccumulate_of_n_eq_one h, adlerBatch_residues]
  · rw [adlerAccumulate_of_n_ne_one h]

/-- The bounds of R94 pass from byte to byte and begin again with each batch. -/
theorem adlerAccumulate_boundedAfter {r : AdlerRegs} {k : Nat} (hk : k < 5552)
    (hn : r.n.toNat = 5552 - k) (hr : r.boundedAfter k) (d : Byte) :
    (adlerAccumulate r d).boundedAfter ((k + 1) % 5552) := by
  obtain ⟨rfl, hacc⟩ | ⟨hnext, hacc⟩ := adlerAccumulate_cases hk hn d
  · rw [hacc]
    exact adlerBatch_le _
  · rw [hacc, Nat.mod_eq_of_lt hnext]
    exact adlerAdd_boundedAfter hr hk d

/-- The unit's sums after any byte sequence: bounded as its batch says, and of the recurrences'
residues. -/
theorem foldl_adlerAccumulate_sums (ds : List Byte) :
    (ds.foldl adlerAccumulate adlerStart).boundedAfter (ds.length % 5552) ∧
    adlerSums ds = adlerResidues (ds.foldl adlerAccumulate adlerStart).sums := by
  induction ds using List.reverseRecOn with
  | nil => exact ⟨⟨by decide, by decide⟩, rfl⟩
  | append_singleton ds d ih =>
    obtain ⟨hbound, hsums⟩ := ih
    have hk : ds.length % 5552 < 5552 := Nat.mod_lt _ (by decide)
    have hn := foldl_adlerAccumulate_n_toNat ds
    rw [List.foldl_concat, List.length_append, List.length_singleton, ← Nat.mod_add_mod]
    refine ⟨adlerAccumulate_boundedAfter hk hn hbound d, ?_⟩
    rw [adlerSums_concat, hsums, adlerSumStep_residues, ← adlerAdd_sums hbound hk,
      adlerAccumulate_residues]

theorem adlerRun_sums (ds : List Byte) : (adlerRun ds).sums = adlerSums ds :=
  (foldl_adlerAccumulate_sums ds).2.symm

theorem adlerRun_le (ds : List Byte) :
    (adlerRun ds).s1.toNat ≤ 65520 ∧ (adlerRun ds).s2.toNat ≤ 65520 :=
  adlerReduce_le _

/-! ### The final reduction and the result word -/

/-- Sums below the modulus stay as they are, as after a batch reduction (R96). -/
theorem adlerReduce_of_le {r : AdlerRegs} (h1 : r.s1.toNat ≤ 65520) (h2 : r.s2.toNat ≤ 65520) :
    adlerReduce r = r := by
  have hlt : ∀ x : Word, x.toNat ≤ 65520 → x % 65521 = x := fun x hx =>
    BitVec.umod_eq_of_lt (by bv_omega)
  rw [adlerReduce, hlt _ h1, hlt _ h2]

section
variable {r : AdlerRegs} (h1 : r.s1.toNat ≤ 65520)
include h1

/-- A low sum that fits 16 bits does not reach the high half of the result word (R96). -/
theorem adlerWord_eq_append :
    adlerWord r = r.s2.extractLsb' 0 16 ++ r.s1.extractLsb' 0 16 := by
  have hhigh : r.s2.toNat <<< 16 % 2 ^ 32 = (r.s2.toNat % 2 ^ 16) <<< 16 := by omega
  have hlow : r.s1.toNat % 2 ^ 16 = r.s1.toNat := Nat.mod_eq_of_lt (by omega)
  apply BitVec.eq_of_toNat_eq
  simp only [adlerWord, BitVec.toNat_or, BitVec.toNat_shiftLeft, BitVec.toNat_append,
    BitVec.extractLsb'_toNat, Nat.shiftRight_zero, hhigh, hlow]

theorem adlerWord_toNat (h2 : r.s2.toNat ≤ 65520) :
    (adlerWord r).toNat = r.s2.toNat * 65536 + r.s1.toNat := by
  have hlow : r.s1.toNat < 2 ^ 16 := by omega
  have hhigh : r.s2.toNat < 2 ^ 16 := by omega
  rw [adlerWord_eq_append h1, BitVec.toNat_append, BitVec.extractLsb'_toNat,
    BitVec.extractLsb'_toNat, Nat.shiftRight_zero, Nat.shiftRight_zero, Nat.mod_eq_of_lt hlow,
    Nat.mod_eq_of_lt hhigh, ← Nat.shiftLeft_add_eq_or_of_lt hlow, Nat.shiftLeft_eq]

theorem adlerWord_high_byte {i : Nat} (hi : i + 8 ≤ 16) :
    (adlerWord r).extractLsb' (16 + i) 8 = r.s2.extractLsb' i 8 := by
  rw [adlerWord_eq_append h1, BitVec.extractLsb'_append_eq_of_le (by omega),
    Nat.add_sub_cancel_left, BitVec.extractLsb'_extractLsb'_of_le hi]

theorem adlerWord_low_byte {i : Nat} (hi : i + 8 ≤ 16) :
    (adlerWord r).extractLsb' i 8 = r.s1.extractLsb' i 8 := by
  rw [adlerWord_eq_append h1, BitVec.extractLsb'_append_eq_of_add_le hi,
    BitVec.extractLsb'_extractLsb'_of_le hi]

end

/-- Settles O24: the reduced low sum fits 16 bits, and reduced sums stay as they are. -/
theorem adlerFinalReductionAndPacking : Obligations.AdlerFinalReductionAndPacking := by
  refine ⟨fun r => adlerWord_eq_append (adlerReduce_le r).1, fun r => ?_, by decide⟩
  obtain ⟨h1, h2⟩ := adlerBatch_le r
  exact adlerReduce_of_le h1 h2

/-- Settles O23: the sums are those of R90, and both fit their half of the word. -/
theorem adlerUnitComputesAdler32 : Obligations.AdlerUnitComputesAdler32 := by
  intro ds
  obtain ⟨h1, h2⟩ := adlerRun_le ds
  have hs1 : (adlerSums ds).1 = (adlerRun ds).s1.toNat := congrArg Prod.fst (adlerRun_sums ds).symm
  have hs2 : (adlerSums ds).2 = (adlerRun ds).s2.toNat := congrArg Prod.snd (adlerRun_sums ds).symm
  rw [adler32, hs1, hs2, ← adlerWord_toNat h1 h2, BitVec.ofNat_toNat, BitVec.setWidth_eq]

end Sys2Proof.Machine
end

section
/-! PROOFS. The command ADLER32 (40_adler32 R97, R98): the field and the registers it writes, its
frame, and its corner cases. -/

namespace Sys2Proof.Machine

/-! ### The field and the registers -/

theorem State.storeAdler_memRead (s : State) (r : AdlerRegs) :
    (s.storeAdler r).memRead s.adlerOff 4 = adlerWord r :=
  s.memRead_memWrite s.adlerOff 4 (adlerWord r)

theorem State.patchAdler_memRead (s : State) :
    s.patchAdler.memRead s.adlerOff 4 = adler32 s.stream := by
  rw [← adlerUnitComputesAdler32]
  exact s.storeAdler_memRead _

theorem State.stream_length (s : State) : s.stream.length = 2352 :=
  s.bufBytes_length s.streamOff_inside

/-- No batch reduction falls inside a stream of 2352 bytes (R98). -/
theorem adlerRun_n {ds : List Byte} (h : ds.length = 2352) : (adlerRun ds).n = 3200 := by
  apply BitVec.eq_of_toNat_eq
  refine (foldl_adlerAccumulate_n_toNat ds).trans ?_
  rw [h]
  rfl

/-- Settles O25: the field is the result word, byte by byte the halves of the reduced sums. -/
theorem adler32PatchesTheChecksum : Obligations.Adler32PatchesTheChecksum := by
  refine ⟨⟨rfl, rfl⟩, fun s => ⟨_, exec_adler32 s, ?_⟩⟩
  have hsums := adlerRun_sums s.stream
  have hlow := (adlerRun_le s.stream).1
  have hbyte := s.patchAdler_bufByte_inside
  simp only [State.complete_memRead, State.complete_s1, State.complete_s2, State.complete_bufByte,
    State.complete_n, State.patchAdler_s1, State.patchAdler_s2, State.patchAdler_n]
  exact ⟨s.patchAdler_memRead, congrArg Prod.fst hsums, congrArg Prod.snd hsums,
    (hbyte 0 (by decide)).trans (adlerWord_high_byte hlow (i := 8) (by decide)),
    (hbyte 1 (by decide)).trans (adlerWord_high_byte hlow (i := 0) (by decide)),
    (hbyte 2 (by decide)).trans (adlerWord_low_byte hlow (by decide)),
    (hbyte 3 (by decide)).trans (adlerWord_low_byte hlow (by decide)),
    adlerRun_n s.stream_length, congrArg (· + 1) s.patchAdler_pc⟩

/-! ### What it leaves unchanged -/

/-- Settles O26, from the effect lemmas of `patchAdler`, which writes its field and the unit's
registers. -/
theorem adler32Frame : Obligations.Adler32Frame := by
  intro s t h
  rw [exec_adler32] at h
  cases h
  exact ⟨s.patchAdler_bufByte_outside, by simp⟩

/-- Where the field does not overlap it, ADLER32 leaves the stream as it was. -/
theorem State.patchAdler_stream {s : State} (h : s.streamOff + 2352 ≤ s.adlerOff ∨
    s.adlerOff + 4 ≤ s.streamOff) : s.patchAdler.stream = s.stream := by
  rw [State.stream, State.stream, State.patchAdler_streamOff]
  refine State.bufBytes_congr s.streamOff_inside fun x hlo hhi => ?_
  have hhi : x < s.streamOff + 2352 := hhi
  exact s.patchAdler_bufByte_outside x (by omega)

/-- Settles O27: the second ADLER32 reads the same stream, so it writes the same field. -/
theorem adler32IsIdempotent : Obligations.Adler32IsIdempotent := by
  intro s t u hdisj ht hu
  rw [exec_adler32] at ht
  cases ht
  rw [exec_adler32] at hu
  cases hu
  have hrun : adlerRun s.patchAdler.complete.stream = adlerRun s.stream :=
    congrArg adlerRun (State.patchAdler_stream hdisj)
  have hoff : s.patchAdler.complete.adlerOff = s.adlerOff := by simp
  refine ⟨fun x => ?_, by simp [hrun], by simp [hrun], by simp [hrun]⟩
  by_cases hx : x < s.adlerOff ∨ s.adlerOff + 4 ≤ x
  · exact State.patchAdler_bufByte_outside _ x (hoff ▸ hx)
  · obtain ⟨j, rfl⟩ := Nat.exists_eq_add_of_le (show s.adlerOff ≤ x by omega)
    have hj : j < 4 := by omega
    have hin := s.patchAdler.complete.patchAdler_bufByte_inside j hj
    rw [hoff, hrun, ← s.patchAdler_bufByte_inside j hj] at hin
    exact hin

/-! ### Constant streams -/

/-- The recurrences of R90 over one byte repeated, in closed form. -/
theorem adlerSums_replicate (b : Byte) (k : Nat) :
    adlerSums (List.replicate k b) =
      ((1 + k * b.toNat) % 65521, (k + b.toNat * ((k + 1) * k / 2)) % 65521) := by
  induction k with
  | zero => simp [adlerSums]
  | succ k ih =>
    have htri : (k + 1 + 1) * (k + 1) / 2 = (k + 1) * k / 2 + (k + 1) := Nat.triangle_succ (k + 1)
    rw [List.replicate_succ', adlerSums_concat, ih, htri]
    simp only [adlerSumStep, Nat.mod_add_mod, Nat.add_mod_mod, adlerBase]
    ring_nf

theorem State.stream_eq_replicate {s : State} {b : Byte}
    (h : ∀ k, k < 2352 → s.bufByte (s.streamOff + k) = b) : s.stream = List.replicate 2352 b := by
  refine List.eq_replicate_iff.2 ⟨s.stream_length, fun x hx => ?_⟩
  rw [State.stream, State.bufBytes_eq s s.streamOff_inside] at hx
  obtain ⟨k, hk, rfl⟩ := List.mem_map.1 hx
  exact h k (List.mem_range.1 hk)

theorem exec_adler32_of_constant_stream {s : State} {b : Byte}
    (h : ∀ k, k < 2352 → s.bufByte (s.streamOff + k) = b) :
    ∃ t, exec .adler32 s = .next t ∧
      t.memRead s.adlerOff 4 = adler32 (List.replicate 2352 b) :=
  ⟨_, exec_adler32 s, s.patchAdler_memRead.trans (congrArg adler32 (State.stream_eq_replicate h))⟩

/-- Settles O28, by the closed form of the sums at `k = 2352`. -/
theorem adler32OfConstantStreams : Obligations.Adler32OfConstantStreams := by
  have hzeros : adler32 (List.replicate 2352 0) = 0x09300001 := by
    rw [adler32, adlerSums_replicate]
    decide
  have hones : adler32 (List.replicate 2352 0xFF) = 0x5F172758 := by
    rw [adler32, adlerSums_replicate]
    decide
  intro s
  exact ⟨fun h => hzeros ▸ exec_adler32_of_constant_stream h,
    fun h => hones ▸ exec_adler32_of_constant_stream h⟩

end Sys2Proof.Machine
end

section
/-! PROOFS. The CRC-32 unit (41_crc32 R111 to R116): `step8` is linear and shifts a clear low byte
out, so the table-driven update is the bitwise one. -/

namespace Sys2Proof.Machine

/-! ### The conditional shift-and-exclusive-or step -/

theorem step1_of_even {c : Word} (h : c.getLsbD 0 = false) : step1 c = c >>> 1 := by
  rw [step1, h, if_neg Bool.false_ne_true]

/-- `step1` is linear over exclusive-or (R112): the polynomial comes in for one odd word, and cancels
for two. -/
theorem step1_xor (a b : Word) : step1 (a ^^^ b) = step1 a ^^^ step1 b := by
  have hcancel : ∀ x y : Word, x ^^^ y = (crcPoly ^^^ x) ^^^ (crcPoly ^^^ y) := fun x y => by
    ext j hj
    cases hp : crcPoly[j] <;> simp [hp]
  rw [step1, step1, step1, BitVec.getLsbD_xor, BitVec.ushiftRight_xor_distrib]
  cases a.getLsbD 0 <;> cases b.getLsbD 0
  case false.false => rfl
  case false.true =>
    show crcPoly ^^^ (a >>> 1 ^^^ b >>> 1) = a >>> 1 ^^^ (crcPoly ^^^ b >>> 1)
    ac_rfl
  case true.false => exact (BitVec.xor_assoc _ _ _).symm
  case true.true => exact hcancel _ _

theorem step8_xor (a b : Word) : step8 (a ^^^ b) = step8 a ^^^ step8 b := by
  simp only [step8, step1_xor]

/-- A clear low byte is shifted out without an exclusive-or. -/
theorem step8_of_low_byte_clear {c : Word} (h : ∀ j, j < 8 → c.getLsbD j = false) :
    step8 c = c >>> 8 := by
  have hstep : ∀ k, k < 8 → step1 (c >>> k) = c >>> (k + 1) := fun k hk => by
    rw [step1_of_even (by simpa using h k hk), BitVec.shiftRight_add]
  calc step8 c = step8 (c >>> 0) := by simp
    _ = c >>> 8 := by simp only [step8, hstep, Nat.reduceLT, Nat.reduceAdd]

/-! ### The table -/

theorem crcTable_getElem (i : Nat) (h : i < 256) : crcTable[i] = step8 (BitVec.ofNat 32 i) := by
  simp [crcTable]

theorem crcTable_getElem_byte (i : BitVec 8) :
    crcTable[i.toNat]'i.isLt = step8 (i.setWidth 32) := by
  rw [crcTable_getElem, ← BitVec.ofNat_toNat]

theorem crcTable_toList : crcTable.toList = printedTable := by
  decide +kernel

/-- Settles O29: the printed entries by evaluating R111 on all 256, linearity from that of `step8`. -/
theorem crcTableIsThePrintedOne : Obligations.CrcTableIsThePrintedOne := by
  refine ⟨fun s => ⟨_, exec_crcinit s, crcTable_toList⟩, fun i j => ?_⟩
  simp only [crcTable_getElem_byte, BitVec.setWidth_xor, step8_xor]

/-! ### The update -/

/-- The low byte decides which polynomials come in, and the rest of the word is shifted. -/
theorem step8_eq_low_byte_xor_shift (c : Word) :
    step8 c = step8 ((c.extractLsb' 0 8).setWidth 32) ^^^ (c >>> 8) := by
  generalize hlow : (c.extractLsb' 0 8).setWidth 32 = low
  have hclear : ∀ j, j < 8 → (low ^^^ c).getLsbD j = false := fun j hj => by
    simp [← hlow, hj, show j < 32 by omega]
  have hshift : (low ^^^ c) >>> 8 = c >>> 8 := by
    ext j hj
    simp [← hlow]
  calc step8 c = step8 (low ^^^ (low ^^^ c)) := by
        rw [← BitVec.xor_assoc, BitVec.xor_self, BitVec.zero_xor]
    _ = step8 low ^^^ (c >>> 8) := by rw [step8_xor, step8_of_low_byte_clear hclear, hshift]

theorem crcUpdate_eq_bitwise (c : Word) (d : Byte) :
    crcUpdate crcTable c d = crcUpdateBitwise c d := by
  have hbyte : (c ^^^ d.setWidth 32) >>> 8 = c >>> 8 := by
    ext j hj
    simp
  rw [crcUpdateBitwise, step8_eq_low_byte_xor_shift, hbyte, crcUpdate, crcTable_getElem_byte]

theorem crc32_eq_not_crcRun (ds : List Byte) : crc32 ds = ~~~ (crcRun crcTable ds) :=
  BitVec.xor_allOnes

/-- Settles O33: the table entry answers for the low byte of the register, and the shift for the
rest. -/
theorem tableDrivenCrcIsBitwiseCrc : Obligations.TableDrivenCrcIsBitwiseCrc := by
  have hupdate : crcUpdate crcTable = crcUpdateBitwise :=
    funext fun c => funext (crcUpdate_eq_bitwise c)
  refine ⟨crcUpdate_eq_bitwise, fun ds => ?_⟩
  rw [crc32_eq_not_crcRun, crcRun, hupdate, crcOnes]

end Sys2Proof.Machine
end

section
/-! PROOFS. The commands CRCINIT and CRC32 (41_crc32 R113, R117, R120): the table, the trailer, the
two faults and what each command leaves unchanged. -/

namespace Sys2Proof.Machine

/-! ### CRCINIT -/

/-- Settles O30, from the effect lemmas of `buildTable`. -/
theorem crcinitBuildsTheTable : Obligations.CrcinitBuildsTheTable := fun s =>
  ⟨_, exec_crcinit s, crcTable_getElem, by simp⟩

/-- Settles O31: the table CRCINIT leaves does not depend on the state. -/
theorem crcinitIsIdempotent : Obligations.CrcinitIsIdempotent := by
  have htab : ∀ s t, exec .crcinit s = .next t → t.tab = crcTable := fun s t h => by
    rw [exec_crcinit] at h
    cases h
    rfl
  exact ⟨fun s s' => ⟨_, _, exec_crcinit s, exec_crcinit s', rfl⟩,
    fun s t u ht hu => (htab t u hu).trans (htab s t ht).symm⟩

/-! ### The trailer -/

theorem State.patchCrc_memRead (s : State) (off len : BitVec 12) :
    (s.patchCrc off len).memRead (trailerAddr off len) 4 =
      crcRun s.tab (s.coveredBytes off len) ^^^ crcOnes :=
  s.memRead_memWrite (trailerAddr off len) 4 _

/-- Settles O34: with the table built, the stored word is the CRC-32 of the covered bytes. -/
theorem crc32PatchesTheChecksum : Obligations.Crc32PatchesTheChecksum := by
  intro s off len htabv htab hlen hoff
  refine ⟨_, exec_crc32_inside htabv ((chunkInBounds_iff off len).2 ⟨hlen, hoff⟩), ?_⟩
  have hword : crc32 (s.bufBytes (off.toNat + 4) (len.toNat - 8)) =
      crcRun s.tab (s.coveredBytes off len) ^^^ crcOnes := by rw [htab]; rfl
  refine ⟨?_, ?_, ?_, by simp⟩
  · exact (s.patchCrc_memRead off len).trans hword.symm
  · exact (s.patchCrc_bufByte_inside off len 0 (by decide)).trans (by rw [hword])
  · rw [crc32_eq_not_crcRun, BitVec.not_not, ← htab]
    rfl

/-! ### The faults and the frame -/

theorem encode_crc32 (off len : BitVec 12) :
    encode (.crc32 off len) = BitVec.ofNat 32 (0x03000000 + off.toNat * 4096 + len.toNat) := by
  rw [← encode_crc32_ofNat off.isLt len.isLt, BitVec.ofNat_toNat, BitVec.ofNat_toNat,
    BitVec.setWidth_eq, BitVec.setWidth_eq]

/-- Settles O36: both faults come before the patch, and the word rebuilt from the operands is the sum
of its fields. -/
theorem crc32FaultsBeforeWriting : Obligations.Crc32FaultsBeforeWriting := by
  intro s off len
  rw [← encode_crc32]
  refine ⟨exec_crc32_noTable off len, fun htabv hout => exec_crc32_outside htabv ?_⟩
  rw [Bool.eq_false_iff, Ne, chunkInBounds_iff]
  omega

/-- Settles O35, case by case of what a CRC32 can do. -/
theorem crc32Frame : Obligations.Crc32Frame := by
  intro s t off len h
  rcases exec_crc32_cases h with ⟨htabv, rfl⟩ | ⟨htabv, hb, rfl⟩ | ⟨htabv, hb, rfl⟩
  · simp [htabv]
  · simp [htabv, hb]
  · exact ⟨fun _ => ⟨s.patchCrc_bufByte_outside off len, by simp⟩,
      fun hno => absurd ⟨htabv, hb⟩ hno, by simp⟩

/-! ### What the trailer depends on -/

/-- Two states with one table and the same covered bytes get the same trailer. -/
theorem State.patchCrc_trailer_congr {s t : State} {off len : BitVec 12} (htab : s.tab = t.tab)
    (hcov : s.coveredBytes off len = t.coveredBytes off len) {x : Nat}
    (hlo : trailerAddr off len ≤ x) (hhi : x < trailerAddr off len + 4) :
    (s.patchCrc off len).bufByte x = (t.patchCrc off len).bufByte x := by
  obtain ⟨j, rfl⟩ := Nat.exists_eq_add_of_le hlo
  rw [State.patchCrc_bufByte_inside s off len j (by omega),
    State.patchCrc_bufByte_inside t off len j (by omega), htab, hcov]

/-- States that read alike over the covered bytes of a chunk in bounds give the same sequence. -/
theorem State.coveredBytes_congr {s t : State} {off len : BitVec 12}
    (hb : chunkInBounds off len = true)
    (h : ∀ x, off.toNat ≤ x → x < trailerAddr off len → s.bufByte x = t.bufByte x) :
    s.coveredBytes off len = t.coveredBytes off len := by
  obtain ⟨hlen, hend⟩ := (chunkInBounds_iff off len).1 hb
  unfold State.coveredBytes coveredStart coveredLen
  unfold trailerAddr at h
  exact State.bufBytes_congr (by omega) fun x hlo hhi => h x (by omega) (by omega)

/-- The trailer never overlaps the covered bytes (R117). -/
theorem State.patchCrc_coveredBytes (s : State) {off len : BitVec 12}
    (hb : chunkInBounds off len = true) :
    (s.patchCrc off len).coveredBytes off len = s.coveredBytes off len :=
  State.coveredBytes_congr hb fun x _ hx => s.patchCrc_bufByte_outside off len x (.inl hx)

/-- Settles O37: the second CRC32 covers the same bytes, so it writes the same trailer. -/
theorem crc32IsIdempotent : Obligations.Crc32IsIdempotent := by
  intro s t u off len htabv hb ht hu
  rw [exec_crc32_inside htabv hb] at ht
  cases ht
  rw [exec_crc32_inside (by simpa using htabv) hb] at hu
  cases hu
  have hcov : (s.patchCrc off len).complete.coveredBytes off len = s.coveredBytes off len :=
    s.patchCrc_coveredBytes hb
  refine ⟨fun x => ?_, by simp [hcov]⟩
  by_cases hx : x < trailerAddr off len ∨ trailerAddr off len + 4 ≤ x
  · exact State.patchCrc_bufByte_outside _ off len x hx
  · exact State.patchCrc_trailer_congr (by simp) hcov (by omega) (by omega)

end Sys2Proof.Machine
end

section
/-! PROOFS. The five chunk commands in any order (41_crc32 R118, R119, R121). Over the bytes of its
own chunk a list of CRC32 commands on chunks apart does what that chunk's command does alone. -/

namespace Sys2Proof.Machine

/-- The bounds check of R117 on a chunk's own numbers. -/
def chunkFits (c : Chunk) : Prop := 12 ≤ c.len ∧ c.off + c.len ≤ 2444

/-- Two chunks share no byte. -/
def chunksApart (c d : Chunk) : Prop := c.off + c.len ≤ d.off ∨ d.off + d.len ≤ c.off

/-- What `CRC32` on a chunk that fits leaves. -/
def State.patchChunk (s : State) (c : Chunk) : State :=
  (s.patchCrc (BitVec.ofNat 12 c.off) (BitVec.ofNat 12 c.len)).complete

/-! ### One chunk -/

section
variable {c : Chunk} (hc : chunkFits c)
include hc

theorem operands_of_chunkFits :
    (BitVec.ofNat 12 c.off).toNat = c.off ∧ (BitVec.ofNat 12 c.len).toNat = c.len := by
  obtain ⟨hlen, hend⟩ := hc
  simp only [BitVec.toNat_ofNat]
  omega

theorem chunkInBounds_of_chunkFits :
    chunkInBounds (BitVec.ofNat 12 c.off) (BitVec.ofNat 12 c.len) = true := by
  obtain ⟨hoff, hlen⟩ := operands_of_chunkFits hc
  rw [chunkInBounds_iff, hoff, hlen]
  exact hc

theorem trailerAddr_of_chunkFits :
    trailerAddr (BitVec.ofNat 12 c.off) (BitVec.ofNat 12 c.len) = c.off + c.len - 4 := by
  obtain ⟨hoff, hlen⟩ := operands_of_chunkFits hc
  rw [trailerAddr, hoff, hlen]

theorem exec_crcOfChunk {s : State} (htabv : s.tabv = true) :
    exec (crcOfChunk c) s = .next (s.patchChunk c) :=
  exec_crc32_inside htabv (chunkInBounds_of_chunkFits hc)

theorem State.patchChunk_bufByte_outside (s : State) {x : Nat}
    (hx : x < c.off ∨ c.off + c.len ≤ x) : (s.patchChunk c).bufByte x = s.bufByte x := by
  have haddr := trailerAddr_of_chunkFits hc
  obtain ⟨hlen, -⟩ := hc
  exact s.patchCrc_bufByte_outside _ _ x (by omega)

/-- Over a chunk's bytes its command depends on the table and on these bytes alone. -/
theorem State.patchChunk_congr {s t : State} (htab : s.tab = t.tab)
    (h : ∀ x, c.off ≤ x → x < c.off + c.len → s.bufByte x = t.bufByte x) {x : Nat}
    (hlo : c.off ≤ x) (hhi : x < c.off + c.len) :
    (s.patchChunk c).bufByte x = (t.patchChunk c).bufByte x := by
  have hb := chunkInBounds_of_chunkFits hc
  have haddr := trailerAddr_of_chunkFits hc
  obtain ⟨hoff, -⟩ := operands_of_chunkFits hc
  obtain ⟨hlen, -⟩ := hc
  by_cases hx : x < c.off + c.len - 4
  · calc (s.patchChunk c).bufByte x = s.bufByte x :=
          s.patchCrc_bufByte_outside _ _ x (.inl (haddr ▸ hx))
      _ = t.bufByte x := h x hlo hhi
      _ = (t.patchChunk c).bufByte x :=
          (t.patchCrc_bufByte_outside _ _ x (.inl (haddr ▸ hx))).symm
  · exact State.patchCrc_trailer_congr htab
      (State.coveredBytes_congr hb fun y hlo' hhi' => h y (by omega) (by omega))
      (by omega) (by omega)

/-- After a chunk's command its trailer verifies (R121). -/
theorem State.patchChunk_verifies {s : State} (htab : s.tab = crcTable) :
    (s.patchChunk c).memRead (c.off + c.len - 4) 4 =
      crc32 ((s.patchChunk c).bufBytes (c.off + 4) (c.len - 8)) := by
  obtain ⟨hoff, hlen⟩ := operands_of_chunkFits hc
  have hword := s.patchCrc_memRead (BitVec.ofNat 12 c.off) (BitVec.ofNat 12 c.len)
  rw [← s.patchCrc_coveredBytes (chunkInBounds_of_chunkFits hc), State.coveredBytes, coveredStart,
    coveredLen, trailerAddr_of_chunkFits hc, hoff, hlen, htab] at hword
  exact hword

end

/-! ### Any list of chunks -/

/-- Every chunk fits, and no two share a byte. -/
def chunksSeparate (cs : List Chunk) : Prop :=
  (∀ c ∈ cs, chunkFits c) ∧ cs.Pairwise chunksApart

theorem chunksSeparate_cons {c : Chunk} {cs : List Chunk} (h : chunksSeparate (c :: cs)) :
    chunkFits c ∧ (∀ d ∈ cs, chunksApart c d) ∧ chunksSeparate cs := by
  obtain ⟨hfit, hapart⟩ := h
  obtain ⟨hc, hcs⟩ := List.forall_mem_cons.1 hfit
  obtain ⟨hfirst, hrest⟩ := List.pairwise_cons.1 hapart
  exact ⟨hc, hfirst, hcs, hrest⟩

theorem chunksSeparate_perm {cs ds : List Chunk} (h : chunksSeparate ds) (hperm : cs.Perm ds) :
    chunksSeparate cs :=
  ⟨fun c hc => h.1 c (hperm.mem_iff.1 hc), (hperm.pairwise_iff Or.symm).2 h.2⟩

/-- What CRC32 on each chunk of a list leaves. -/
def State.patchChunks (s : State) (cs : List Chunk) : State := cs.foldl State.patchChunk s

theorem execAll_crcOfChunk {s : State} {cs : List Chunk} (hcs : chunksSeparate cs)
    (htabv : s.tabv = true) : execAll (cs.map crcOfChunk) s = .next (s.patchChunks cs) := by
  induction cs generalizing s with
  | nil => rfl
  | cons c cs ih =>
    obtain ⟨hc, -, hrest⟩ := chunksSeparate_cons hcs
    rw [List.map_cons, execAll, exec_crcOfChunk hc htabv]
    exact ih hrest htabv

theorem State.patchChunks_bufByte_outside (s : State) {cs : List Chunk} {x : Nat}
    (hcs : chunksSeparate cs) (hx : ∀ c ∈ cs, x < c.off ∨ c.off + c.len ≤ x) :
    (s.patchChunks cs).bufByte x = s.bufByte x := by
  induction cs generalizing s with
  | nil => rfl
  | cons c cs ih =>
    obtain ⟨hc, -, hrest⟩ := chunksSeparate_cons hcs
    obtain ⟨hxc, hxs⟩ := List.forall_mem_cons.1 hx
    exact (ih (s.patchChunk c) hrest hxs).trans (s.patchChunk_bufByte_outside hc hxc)

/-- The commands on separate chunks do to each chunk's bytes what its own command does alone. -/
theorem State.patchChunks_bufByte_inside (s : State) {cs : List Chunk} {c : Chunk}
    (hcs : chunksSeparate cs) (hc : c ∈ cs) {x : Nat}
    (hlo : c.off ≤ x) (hhi : x < c.off + c.len) :
    (s.patchChunks cs).bufByte x = (s.patchChunk c).bufByte x := by
  induction cs generalizing s with
  | nil => cases hc
  | cons d cs ih =>
    obtain ⟨hd, hfirst, hrest⟩ := chunksSeparate_cons hcs
    rcases List.mem_cons.1 hc with rfl | hc
    · refine (s.patchChunk c).patchChunks_bufByte_outside hrest fun e he => ?_
      rcases hfirst e he with h | h <;> omega
    · have hskip : ∀ y, c.off ≤ y → y < c.off + c.len →
          (s.patchChunk d).bufByte y = s.bufByte y := fun y hlo hhi =>
        s.patchChunk_bufByte_outside hd (by rcases hfirst c hc with h | h <;> omega)
      have htab : (s.patchChunk d).tab = s.tab := rfl
      exact (ih (s.patchChunk d) hrest hc).trans
        (State.patchChunk_congr (hrest.1 c hc) htab hskip hlo hhi)

/-- On separate chunks the order of the commands does not matter (R119). -/
theorem State.patchChunks_bufByte_perm (s : State) {cs ds : List Chunk} (hperm : cs.Perm ds)
    (hds : chunksSeparate ds) (x : Nat) :
    (s.patchChunks cs).bufByte x = (s.patchChunks ds).bufByte x := by
  have hcs := chunksSeparate_perm hds hperm
  by_cases hx : ∃ c ∈ ds, c.off ≤ x ∧ x < c.off + c.len
  · obtain ⟨c, hc, hlo, hhi⟩ := hx
    rw [s.patchChunks_bufByte_inside hcs (hperm.mem_iff.2 hc) hlo hhi,
      s.patchChunks_bufByte_inside hds hc hlo hhi]
  · have hout : ∀ c ∈ ds, x < c.off ∨ c.off + c.len ≤ x := fun c hc => by
      by_contra hin
      exact hx ⟨c, hc, by omega⟩
    rw [s.patchChunks_bufByte_outside hcs fun c hc => hout c (hperm.mem_iff.1 hc),
      s.patchChunks_bufByte_outside hds hout]

/-- After the commands on separate chunks every chunk's trailer verifies (R121). -/
theorem State.patchChunks_verifies {s : State} {cs : List Chunk} {c : Chunk}
    (hcs : chunksSeparate cs) (hc : c ∈ cs) (htab : s.tab = crcTable) :
    (s.patchChunks cs).memRead (c.off + c.len - 4) 4 =
      crc32 ((s.patchChunks cs).bufBytes (c.off + 4) (c.len - 8)) := by
  have hbyte : ∀ x, c.off ≤ x → x < c.off + c.len →
      (s.patchChunks cs).bufByte x = (s.patchChunk c).bufByte x := fun x hlo hhi =>
    s.patchChunks_bufByte_inside hcs hc hlo hhi
  obtain ⟨hlen, hend⟩ := hcs.1 c hc
  calc (s.patchChunks cs).memRead (c.off + c.len - 4) 4
      = (s.patchChunk c).memRead (c.off + c.len - 4) 4 :=
        State.memRead_congr fun x hlo hhi => hbyte x (by omega) (by omega)
    _ = crc32 ((s.patchChunk c).bufBytes (c.off + 4) (c.len - 8)) :=
        State.patchChunk_verifies (hcs.1 c hc) htab
    _ = crc32 ((s.patchChunks cs).bufBytes (c.off + 4) (c.len - 8)) := by
        rw [State.bufBytes_congr (by omega) fun x hlo hhi => hbyte x (by omega) (by omega)]

/-! ### The default layout -/

/-- The five chunks in the source's listing order (R118). -/
def chunkList (m : ChunkMap) : List Chunk := [m.ihdr, m.plte, m.trns, m.idat, m.iend]

theorem crcAll_eq_map (m : ChunkMap) : crcAll m = (chunkList m).map crcOfChunk := rfl

theorem defaultChunks_separate : chunksSeparate (chunkList defaultChunks) := by
  unfold chunksSeparate chunkFits chunksApart
  decide

/-- Settles O38: an order of the five commands is an order of the five chunks, which are
separate. -/
theorem fiveChunkCrcsCommute : Obligations.FiveChunkCrcsCommute := by
  intro s order htabv htab hperm
  rw [crcAll_eq_map] at hperm ⊢
  obtain ⟨cs, rfl, hcs⟩ := (congrFun₂ (List.eq_map_comp_perm crcOfChunk) order _).mpr hperm
  have hsep := chunksSeparate_perm defaultChunks_separate hcs
  exact ⟨_, _, execAll_crcOfChunk hsep htabv, execAll_crcOfChunk defaultChunks_separate htabv,
    s.patchChunks_bufByte_perm hcs defaultChunks_separate,
    fun c hc => State.patchChunks_verifies hsep (hcs.mem_iff.2 hc) htab⟩

end Sys2Proof.Machine
end

section
/-! PROOFS. The function `b64` (42_base64 R130 to R136): the alphabet, the four characters of a
group, and the length of a text and its pads. -/

namespace Sys2Proof.Machine

/-! ### The alphabet -/

theorem alphabetChar_mem (x : BitVec 6) : alphabetChar x ∈ alphabet := by
  have hx : x.toNat < alphabet.length := x.isLt
  rw [alphabetChar, List.getD_eq_getElem _ _ hx]
  exact List.getElem_mem hx

/-- The formula gives the code of the character in the line, sextet by sextet. -/
theorem alpha_eq_asciiCode (x : BitVec 6) : alpha x = asciiCode (alphabetChar x) := by
  revert x
  decide

/-- Settles O39. -/
theorem alphabetIsTheFormula : Obligations.AlphabetIsTheFormula :=
  ⟨fun x => ⟨alpha_eq_asciiCode x, alphabetChar_mem x⟩, rfl, by decide, rfl, by decide⟩

/-! ### Groups -/

/-- The four characters of a full group (R132). -/
def groupText (b0 b1 b2 : Byte) : List Char :=
  [alphabetChar (b0.extractLsb' 2 6), alphabetChar (b0.extractLsb' 0 2 ++ b1.extractLsb' 4 4),
   alphabetChar (b1.extractLsb' 0 4 ++ b2.extractLsb' 6 2), alphabetChar (b2.extractLsb' 0 6)]

@[simp] theorem groupText_length (b0 b1 b2 : Byte) : (groupText b0 b1 b2).length = 4 := rfl

theorem groupText_mem_alphabet {b0 b1 b2 : Byte} {c : Char} (h : c ∈ groupText b0 b1 b2) :
    c ∈ alphabet := by
  obtain ⟨x, rfl⟩ : ∃ x, c = alphabetChar x := by
    simp only [groupText, List.mem_cons, List.not_mem_nil, or_false] at h
    rcases h with h | h | h | h <;> exact ⟨_, h⟩
  exact alphabetChar_mem x

theorem b64_group (b0 b1 b2 : Byte) (ds : List Byte) :
    b64 (b0 :: b1 :: b2 :: ds) = groupText b0 b1 b2 ++ b64 ds := rfl

/-- One byte left over is completed with 16 zero bits (R133). -/
theorem b64_one (b0 : Byte) : b64 [b0] = (groupText b0 0 0).take 2 ++ ['=', '='] := rfl

/-- Two bytes left over are completed with 8 zero bits (R134). -/
theorem b64_two (b0 b1 : Byte) : b64 [b0, b1] = (groupText b0 b1 0).take 3 ++ ['='] := rfl

/-! ### The length law -/

theorem b64_length (ds : List Byte) : (b64 ds).length = 4 * ((ds.length + 2) / 3) := by
  induction ds using b64.induct with
  | case1 => rfl
  | case2 b0 => simp [b64_one]
  | case3 b0 b1 => simp [b64_two]
  | case4 b0 b1 b2 ds ih =>
    rw [b64_group, List.length_append, ih, groupText_length]
    simp only [List.length_cons]
    omega

/-- Alphabet characters, then the pads that complete the last group. -/
theorem b64_eq_body_append_pads (ds : List Byte) :
    ∃ body, b64 ds = body ++ List.replicate ((3 - ds.length % 3) % 3) '=' ∧
      ∀ c ∈ body, c ∈ alphabet := by
  induction ds using b64.induct with
  | case1 => exact ⟨[], rfl, by simp⟩
  | case2 b0 =>
    exact ⟨_, b64_one b0, fun _ hc => groupText_mem_alphabet (List.mem_of_mem_take hc)⟩
  | case3 b0 b1 =>
    exact ⟨_, b64_two b0 b1, fun _ hc => groupText_mem_alphabet (List.mem_of_mem_take hc)⟩
  | case4 b0 b1 b2 ds ih =>
    obtain ⟨body, heq, hbody⟩ := ih
    have hmod : (b0 :: b1 :: b2 :: ds).length % 3 = ds.length % 3 := by
      simp only [List.length_cons]
      omega
    refine ⟨groupText b0 b1 b2 ++ body, by rw [b64_group, heq, hmod, List.append_assoc], ?_⟩
    intro c hc
    exact (List.mem_append.1 hc).elim groupText_mem_alphabet (hbody c)

/-- The text of the source stream's length: 3270 alphabet characters and two pads. -/
theorem b64_of_length_2452 {ds : List Byte} (h : ds.length = 2452) :
    (b64 ds).length = 3272 ∧
    ∃ body, b64 ds = body ++ ['=', '='] ∧ ∀ c ∈ body, c ∈ alphabet := by
  refine ⟨by rw [b64_length, h], ?_⟩
  have hbody := b64_eq_body_append_pads ds
  rw [h] at hbody
  exact hbody

/-- Settles O41. -/
theorem base64LengthLaw : Obligations.Base64LengthLaw :=
  ⟨fun ds => ⟨b64_length ds, b64_eq_body_append_pads ds⟩, fun _ => b64_of_length_2452⟩

end Sys2Proof.Machine
end

section
/-! PROOFS. The base64 unit register by register (42_base64 R139 to R141): what `G` holds, and that
a run writes the text of its input. -/

namespace Sys2Proof.Machine

/-! ### The register `G` -/

/-- `G` with three bytes in it, the first in `G[23:16]` (R131). -/
def packGroup (b0 b1 b2 : Byte) : BitVec 24 := b0 ++ b1 ++ b2

theorem packGroup_getLsbD (b0 b1 b2 : Byte) (i : Nat) :
    (packGroup b0 b1 b2).getLsbD i =
      if i < 8 then b2.getLsbD i else if i < 16 then b1.getLsbD (i - 8)
      else b0.getLsbD (i - 16) := by
  simp only [packGroup, BitVec.getLsbD_append]
  grind

/-- A byte shifted in at the bottom pushes the top one out (R140). -/
theorem packGroup_push (a b0 b1 b2 : Byte) :
    packGroup a b0 b1 <<< 8 ||| b2.setWidth 24 = packGroup b0 b1 b2 := by
  refine BitVec.eq_of_getLsbD_eq fun i hi => ?_
  simp only [BitVec.getLsbD_or, BitVec.getLsbD_shiftLeft, BitVec.getLsbD_setWidth,
    packGroup_getLsbD]
  grind

/-- A zero byte shifted in (R133, R134). -/
theorem packGroup_shift (a b0 b1 : Byte) : packGroup a b0 b1 <<< 8 = packGroup b0 b1 0 := by
  simpa using packGroup_push a b0 b1 0

/-- The four sextets of `G` from the top down, in the bytes it holds (R131). -/
theorem packGroup_sextets (b0 b1 b2 : Byte) :
    (packGroup b0 b1 b2).extractLsb' 18 6 = b0.extractLsb' 2 6 ∧
    (packGroup b0 b1 b2).extractLsb' 12 6 = b0.extractLsb' 0 2 ++ b1.extractLsb' 4 4 ∧
    (packGroup b0 b1 b2).extractLsb' 6 6 = b1.extractLsb' 0 4 ++ b2.extractLsb' 6 2 ∧
    (packGroup b0 b1 b2).extractLsb' 0 6 = b2.extractLsb' 0 6 := by
  refine ⟨?_, ?_, ?_, ?_⟩ <;>
  · refine BitVec.eq_of_getLsbD_eq fun i hi => ?_
    simp only [BitVec.getLsbD_append, BitVec.getLsbD_extractLsb', packGroup_getLsbD]
    grind

theorem groupChars_packGroup (b0 b1 b2 : Byte) :
    groupChars (packGroup b0 b1 b2) = (groupText b0 b1 b2).map asciiCode := by
  obtain ⟨h0, h1, h2, h3⟩ := packGroup_sextets b0 b1 b2
  simp only [groupChars, groupText, h0, h1, h2, h3, alpha_eq_asciiCode, List.map_cons,
    List.map_nil]

/-! ### The loop and the tail -/

theorem b64Push_packGroup (a b0 b1 d : Byte) (cnt : BitVec 2) (optr : BitVec 12) :
    b64Push ⟨packGroup a b0 b1, cnt, optr⟩ d = ⟨packGroup b0 b1 d, cnt + 1, optr⟩ := by
  rw [b64Push, packGroup_push]

/-- One byte pushed into the cleared registers is held. -/
theorem b64Loop_cleared_one (optr : BitVec 12) (b0 : Byte) (ds : List Byte) :
    b64Loop ⟨0, 0, optr⟩ (b0 :: ds) = b64Loop ⟨packGroup 0 0 b0, 1, optr⟩ ds :=
  (b64Loop_cons_held (r := ⟨0, 0, optr⟩) Nat.zero_lt_two b0 ds).trans
    (congrArg (b64Loop · ds) (b64Push_packGroup 0 0 0 b0 0 optr))

/-- Two bytes are held as well. -/
theorem b64Loop_cleared_two (optr : BitVec 12) (b0 b1 : Byte) (ds : List Byte) :
    b64Loop ⟨0, 0, optr⟩ (b0 :: b1 :: ds) = b64Loop ⟨packGroup 0 b0 b1, 2, optr⟩ ds := by
  have hcnt : (1 : BitVec 2).toNat < 2 := Nat.one_lt_two
  rw [b64Loop_cleared_one, b64Loop_cons_held hcnt, b64Push_packGroup]
  rfl

/-- Three bytes are written as a group, and the registers are cleared again. -/
theorem b64Loop_cleared_group (optr : BitVec 12) (b0 b1 b2 : Byte) (ds : List Byte) :
    b64Loop ⟨0, 0, optr⟩ (b0 :: b1 :: b2 :: ds) =
      ((b64Loop ⟨0, 0, optr + 4⟩ ds).1,
        (groupText b0 b1 b2).map asciiCode ++ (b64Loop ⟨0, 0, optr + 4⟩ ds).2) := by
  have hcnt : (2 : BitVec 2).toNat = 2 := rfl
  rw [b64Loop_cleared_two, ← groupChars_packGroup]
  refine Prod.ext (b64Loop_cons_full hcnt b2 ds) ?_
  rw [b64Loop_cons_full_text hcnt, b64Push_packGroup]

theorem b64Tail_one (optr : BitVec 12) (b0 : Byte) :
    (b64Tail ⟨packGroup 0 0 b0, 1, optr⟩).2 = (b64 [b0]).map asciiCode := by
  have hg : packGroup 0 0 b0 <<< 16 = packGroup b0 0 0 := by
    rw [BitVec.shiftLeft_add _ 8 8, packGroup_shift, packGroup_shift]
  show (groupChars (packGroup 0 0 b0 <<< 16)).take 2 ++ [padCode, padCode] = _
  rw [hg, groupChars_packGroup, b64_one, List.map_append, List.map_take]
  rfl

theorem b64Tail_two (optr : BitVec 12) (b0 b1 : Byte) :
    (b64Tail ⟨packGroup 0 b0 b1, 2, optr⟩).2 = (b64 [b0, b1]).map asciiCode := by
  show (groupChars (packGroup 0 b0 b1 <<< 8)).take 3 ++ [padCode] = _
  rw [packGroup_shift, groupChars_packGroup, b64_two, List.map_append, List.map_take]
  rfl

/-- The characters of the loop and of the tail after it, with `G` and `CNT` cleared and `OPTR`
anywhere, as the loop stands after each full group. -/
theorem b64Loop_append_b64Tail (optr : BitVec 12) (ds : List Byte) :
    (b64Loop ⟨0, 0, optr⟩ ds).2 ++ (b64Tail (b64Loop ⟨0, 0, optr⟩ ds).1).2 =
      (b64 ds).map asciiCode := by
  induction ds using b64.induct generalizing optr with
  | case1 => rfl
  | case2 b0 =>
    rw [b64Loop_cleared_one]
    exact b64Tail_one optr b0
  | case3 b0 b1 =>
    rw [b64Loop_cleared_two]
    exact b64Tail_two optr b0 b1
  | case4 b0 b1 b2 ds ih =>
    rw [b64Loop_cleared_group, b64_group, List.map_append, List.append_assoc, ih]

/-- Settles O40: group by group, a run starts with the registers cleared. -/
theorem base64UnitComputesB64 : Obligations.Base64UnitComputesB64 :=
  b64Loop_append_b64Tail 0

end Sys2Proof.Machine
end

section
/-! PROOFS. The command B64ENC (42_base64 R138, R139, R142): the source stream, the text it leaves
in `OUT`, what it leaves unchanged, and the form of the text as an invariant. -/

namespace Sys2Proof.Machine

/-! ### The source stream -/

/-- Settles O42. -/
theorem sourceStreamIsSignatureThenBuffer : Obligations.SourceStreamIsSignatureThenBuffer := by
  intro s
  have hsig : sig.length = 8 := rfl
  refine ⟨s.srcStream_length, fun i hi => List.getElem?_append_left hi, fun i hlo hhi => ?_⟩
  have hlen : i - 8 < (s.bufBytes 0 2444).length := by
    rw [s.bufBytes_length (by omega)]
    omega
  rw [State.srcStream, List.getElem?_append_right hlo, hsig, List.getElem?_eq_getElem hlen,
    s.bufBytes_getElem (by omega), Nat.zero_add]

/-- The buffer as one sequence begins with `BUF[0]`. -/
theorem State.bufBytes_eq_cons (s : State) :
    ∃ rest, s.bufBytes 0 2444 = s.bufByte 0 :: rest := by
  rw [s.bufBytes_eq (by omega), List.range_succ_eq_map]
  exact ⟨_, rfl⟩

/-! ### The text in `OUT` -/

theorem State.writeText_outBytes (s : State) :
    s.writeText.outBytes 3272 = (b64 s.srcStream).map asciiCode := by
  have htext : (b64Run s.srcStream).2 = (b64 s.srcStream).map asciiCode :=
    base64UnitComputesB64 s.srcStream
  have hlen : (b64Run s.srcStream).2.length = 3272 := by
    rw [htext, List.length_map]
    exact (b64_of_length_2452 s.srcStream_length).1
  rw [← htext]
  refine List.ext_getElem (by rw [State.outBytes_length, hlen]) fun j _ hj => ?_
  simp only [State.outBytes, List.getElem_map, List.getElem_range]
  rw [State.writeText_outByte, dif_pos hj]

/-- Settles O43. -/
theorem b64encWritesTheText : Obligations.B64encWritesTheText := fun s =>
  ⟨_, exec_b64enc s, s.writeText_outBytes, s.writeText_outlen_eq, by simp⟩

/-- One character of `OUT` after B64ENC. -/
theorem State.writeText_outByte_eq (s : State) {j : Nat} {c : Char}
    (h : (b64 s.srcStream)[j]? = some c) : s.writeText.outByte j = asciiCode c := by
  have hj : j < 3272 := by
    rw [← (b64_of_length_2452 s.srcStream_length).1]
    exact (List.getElem?_eq_some_iff.1 h).1
  have htext := congrArg (·[j]?) s.writeText_outBytes
  simpa [State.outBytes, hj, h] using htext

/-- The ten characters the signature alone decides (R142). -/
def signatureText : List Char := ['i', 'V', 'B', 'O', 'R', 'w', '0', 'K', 'G', 'g']

/-- The text of the signature with bytes after it, by evaluating `b64` on its first three groups:
the third is the last two bytes of the signature and the byte that follows. -/
theorem b64_sig_append_cons (b : Byte) (rest : List Byte) :
    b64 (sig ++ b :: rest) =
      signatureText ++ alphabetChar (0b1010#4 ++ b.extractLsb' 6 2) ::
        alphabetChar (b.extractLsb' 0 6) :: b64 rest := rfl

/-- The first eleven characters of the text of the source stream (R142). -/
theorem State.b64_srcStream (s : State) : ∃ rest, b64 s.srcStream =
    signatureText ++ alphabetChar (0b1010#4 ++ (s.bufByte 0).extractLsb' 6 2) :: rest := by
  obtain ⟨bs, hbuf⟩ := s.bufBytes_eq_cons
  rw [State.srcStream, hbuf, b64_sig_append_cons]
  exact ⟨_, rfl⟩

theorem State.writeText_outBytes_ten (s : State) :
    s.writeText.outBytes 10 = signatureText.map asciiCode := by
  obtain ⟨rest, htext⟩ := s.b64_srcStream
  refine List.ext_getElem rfl fun j _ hj => ?_
  have hj' : j < signatureText.length := by simpa using hj
  simp only [State.outBytes, List.getElem_map, List.getElem_range]
  refine s.writeText_outByte_eq ?_
  rw [htext, List.getElem?_append_left hj', List.getElem?_eq_getElem hj']

/-- Settles O46: the third group ends the signature and begins `BUF`. -/
theorem signatureDecidesTheFirstCharacters : Obligations.SignatureDecidesTheFirstCharacters := by
  intro s
  obtain ⟨rest, htext⟩ := s.b64_srcStream
  refine ⟨_, exec_b64enc s, s.writeText_outBytes_ten, ?_⟩
  rw [alpha_eq_asciiCode, State.complete_outByte]
  exact s.writeText_outByte_eq (by rw [htext]; rfl)

/-! ### What it leaves unchanged -/

/-- Settles O44, from the effect lemmas of `writeText`. -/
theorem b64encFrame : Obligations.B64encFrame := by
  intro s t h
  rw [exec_b64enc] at h
  cases h
  simp

/-! ### The form of the text -/

/-- B64ENC leaves a text of the form R137 and R142 give, from any state. -/
theorem State.writeText_outputText (s : State) : s.writeText.outputText := by
  obtain ⟨hlen, body, htext, hbody⟩ := b64_of_length_2452 s.srcStream_length
  have hbodyLen : body.length = 3270 := by
    rw [htext, List.length_append] at hlen
    simpa using hlen
  refine fun _ => ⟨s.writeText_outBytes_ten, ?_, ?_, fun j hj => ?_⟩
  · exact s.writeText_outByte_eq (c := '=') (by simp [htext, hbodyLen])
  · exact s.writeText_outByte_eq (c := '=') (by simp [htext, hbodyLen])
  · have hj' : j < body.length := by omega
    have hchar : (b64 s.srcStream)[j]? = some body[j] := by
      rw [htext, List.getElem?_append_left hj', List.getElem?_eq_getElem hj']
    rw [s.writeText_outByte_eq hchar]
    exact List.mem_map_of_mem (hbody _ (List.getElem_mem hj'))

/-- The form of the text is a matter of `OUT` and `OUTV`. -/
theorem State.outputText_congr {s t : State} (hs : s.outputText)
    (hout : ∀ j, t.outByte j = s.outByte j) (hv : t.outv = s.outv) : t.outputText := by
  have hbyte : t.outByte = s.outByte := funext hout
  rwa [State.outputText, State.outBytes, hbyte, hv]

@[simp] theorem State.taken_outByte (s : State) (j : Nat) : s.taken.outByte j = s.outByte j := rfl

/-- Settles O45: Reset clears `OUTV`, B64ENC writes the text, and nothing else touches either. -/
theorem outputTextStaysWellFormed : Obligations.OutputTextStaysWellFormed := by
  intro s t hs h
  refine step_induction h (fun _ hv => by cases hv) (fun _ _ _ _ => hs) fun w _ hi => ?_
  cases hi with
  | b64enc => exact State.outputText_congr s.taken.writeText_outputText (by simp) (by simp)
  | illegal | crcFault | adler32 | crcinit | crc32 =>
    exact State.outputText_congr hs (by simp) (by simp)

end Sys2Proof.Machine
end

section
/-! PROOFS. The step that waits (60_exceptions R154), the checks of `Issue` (R153), and what a
standing fault leaves of a step and of a run (R156, R157, 70_reset R174). -/

namespace Sys2Proof.Machine

/-! ### The step that waits -/

/-- Settles O55. -/
theorem nothingHappensWithoutTheHost : Obligations.NothingHappensWithoutTheHost :=
  fun _ => step_idle

/-! ### The checks of Issue -/

/-- Issue while a fault stands is taken and returned (60_exceptions R157). -/
theorem step_issue_of_faulted {s : State} {w : Word} {rest : List HostAction}
    (hh : s.host = .issue w :: rest) (hf : s.faulted = true) :
    step s = .next { s with host := rest, reply := .returned } := by
  have hf' : (s.setHost rest).faulted = true := by rw [State.setHost_faulted, hf]
  calc step s = hostIssue w (s.setHost rest) := step_action hh
    _ = .next ((s.setHost rest).answer .returned) := if_pos hf'

/-- Issue of a command that faults records the issued word, the encoding of the command (log 21). -/
theorem step_issue_of_exec_fault {s : State} {w : Word} {rest : List HostAction} {i : Instr}
    {c : Fault} (hh : s.host = .issue w :: rest) (hf : s.faulted = false)
    (hd : decode w = .command i)
    (he : exec i ((s.setHost rest).answer .returned) =
      .next (((s.setHost rest).answer .returned).raiseFault c (encode i))) :
    step s = .next (((s.setHost rest).answer .returned).raiseFault c w) := by
  rw [encode_of_decode hd] at he
  exact (stepRunsTheDecodedCommand s w rest i hh hf hd).trans he

/-- A CRC32's operands fail the bounds check (41_crc32 R117). -/
theorem chunkInBounds_eq_false_iff (off len : BitVec 12) :
    chunkInBounds off len = false ↔ len.toNat < 12 ∨ 2444 < off.toNat + len.toNat := by
  rw [Bool.eq_false_iff, Ne, chunkInBounds_iff]
  omega

/-- Settles O47: an illegal word stops at the decoder; a CRC32 is run, and checks the table first,
then its bounds. -/
theorem issueChecksInFixedOrder : Obligations.IssueChecksInFixedOrder := by
  intro s w rest hh
  refine ⟨step_issue_of_faulted hh,
    fun hf why hd => illegalWordsRaiseIllegalCommand.2 s w rest why hh hf hd,
    fun hf off len hd htabv => ?_, fun hf off len hd htabv hout => ?_⟩
  · exact step_issue_of_exec_fault hh hf hd (exec_crc32_noTable off len htabv)
  · have hb := (chunkInBounds_eq_false_iff off len).2 hout
    exact step_issue_of_exec_fault hh hf hd (exec_crc32_outside htabv hb)

/-! ### Precise faults -/

/-- The three cause codes (60_exceptions R151). -/
theorem Fault.code_cases (c : Fault) : c.code = 1 ∨ c.code = 2 ∨ c.code = 3 := by
  cases c <;> decide

/-- An Issue that sets the fault bit is a fault entry: no effect of the command is seen. -/
theorem Issued.eq_raiseFault {s t : State} {w : Word} (h : Issued s w t) (hs : s.faulted = false)
    (ht : t.faulted = true) : ∃ c, t = s.raiseFault c w := by
  cases h with
  | illegal | crcFault => exact ⟨_, rfl⟩
  | adler32 | crcinit | crc32 | b64enc => simp [hs] at ht

/-- Settles O48: Reset clears the fault bit and a quiet step keeps it, so that the step is a fault
entry. -/
theorem faultsArePrecise : Obligations.FaultsArePrecise := by
  intro s t h hs ht
  rcases s.next_cases with hr | ⟨hr, hq⟩ | ⟨w, hw, -⟩
  · obtain ⟨host, rfl⟩ := step_of_resetsNext hr h
    cases ht
  · obtain ⟨buf, host, reply, draws, rfl⟩ := step_of_issuesNothing hr hq h
    simp [hs] at ht
  · obtain ⟨c, rfl⟩ := (step_of_issuesNext hw hs h).eq_raiseFault hs ht
    exact ⟨w, hw, rfl, c.code_cases, rfl, rfl, rfl, rfl, rfl, rfl, rfl⟩

/-! ### Sticky faults -/

/-- While a fault stands every step but Reset keeps the fault registers and `pc` (60_exceptions
R157). -/
theorem step_keeps_fault {s t : State} (hf : s.faulted = true) (hr : ¬ s.resetsNext)
    (h : step s = .next t) :
    t.faulted = true ∧ t.fcause = s.fcause ∧ t.finfo = s.finfo ∧ t.pc = s.pc := by
  obtain ⟨buf, host, reply, draws, rfl⟩ := step_of_issuesNothing hr (fun _ _ => hf) h
  exact ⟨hf, rfl, rfl, rfl⟩

/-- The byte just written is read back. -/
theorem State.bufByte_bufWrite_single (s : State) (a : Nat) (v : Byte) :
    (s.bufWrite a [v]).bufByte a = v := by
  simp [State.bufByte_bufWrite]

/-- Settles O49: an Issue is ignored, and the other actions do not look at the fault bit. -/
theorem faultsAreSticky : Obligations.FaultsAreSticky := by
  refine ⟨fun s w rest hf hh => step_issue_of_faulted hh hf, fun s t => step_keeps_fault,
    fun s rest _ => ⟨fun a ha hh => ?_, fun a v ha hh => ?_, fun i hi hlen hh => ?_, fun hh => ?_⟩⟩
  · exact (step_action hh).trans (if_pos ha)
  · exact ⟨_, (step_action hh).trans (if_pos ha), State.bufByte_bufWrite_single _ a v⟩
  · exact (step_action hh).trans ((if_pos hi).trans (if_pos hlen))
  · exact step_action hh

/-! ### The run after a fault -/

/-- A step takes off the host's oldest action and adds none (00_scope R6). -/
theorem step_host_eq_tail {s t : State} (h : step s = .next t) : t.host = s.host.tail := by
  cases step_kind h with
  | idle hh => rw [hh, List.tail_nil]
  | reset rest hh | writeBuf _ _ rest hh | readBuf _ rest hh | readOut _ rest hh
  | readOutFree _ rest hh | readStatus rest hh | ignored _ rest hh | illegal _ rest hh
  | adler32 _ rest hh | crcinit _ rest hh | noTable _ rest hh | outside _ rest hh
  | crc32 _ rest hh | b64enc _ rest hh => simp [hh]

/-- A predicate that every step keeps holds after a run from a state where it holds. -/
theorem run_induction {M : Host.Core} {P : M.State → Prop}
    (hstep : ∀ s t, P s → M.step s = .next t → P t) {k : Nat} {s t : M.State} (hs : P s)
    (h : M.run k s = .next t) : P t := by
  induction k generalizing s with
  | zero =>
    cases h
    exact hs
  | succ k ih =>
    unfold Host.Core.run at h
    split at h
    · next u hu => exact ih (hstep s u hs hu) h
    · cases h
    · cases h

/-- A fault stands, `pc` is `n`, and the host does not go on to reset (60_exceptions R157). -/
def State.stuckAt (n : Nat) (s : State) : Prop :=
  s.faulted = true ∧ s.pc = n ∧ HostAction.reset ∉ s.host

theorem step_keeps_stuckAt {n : Nat} {s t : State} (hs : s.stuckAt n) (h : step s = .next t) :
    t.stuckAt n := by
  obtain ⟨hf, hpc, hreset⟩ := hs
  have hr : ¬ s.resetsNext := fun hr => hreset (List.mem_of_head? hr)
  obtain ⟨hf', -, -, hpc'⟩ := step_keeps_fault hf hr h
  refine ⟨hf', hpc'.trans hpc, fun hmem => hreset ?_⟩
  rw [step_host_eq_tail h] at hmem
  exact List.mem_of_mem_tail hmem

/-- Settles O56: every step keeps the machine stuck at `pc`, and a faulted state has neither ended
nor a next word. -/
theorem faultedRunNeverEnds : Obligations.FaultedRunNeverEnds := by
  intro k s t program hf _ hreset h
  obtain ⟨hf', hpc, -⟩ := run_induction (M := core) (P := State.stuckAt s.pc)
    (fun _ _ => step_keeps_stuckAt) ⟨hf, rfl, hreset⟩ h
  have hrunning : ¬ t.runEnded program := fun ⟨_, hclear⟩ =>
    Bool.false_ne_true (hclear.symm.trans hf')
  exact ⟨hf', hpc, hrunning, if_pos hf'⟩

end Sys2Proof.Machine
end

section
/-! PROOFS. The host's actions other than `Issue` (70_reset R170, R176): what Reset gives, what
WriteBuf writes, what each read hands back; and where the host's scripts write (R177). -/

namespace Sys2Proof.Machine

/-! ### Reset -/

/-- After Reset `BUF` lists nothing, so that every byte is the template's (10_state R36). -/
theorem State.bufByte_of_reset (p : Params) (host : List HostAction) (draws a : Nat)
    (ha : a < 2444) :
    ({ State.reset with params := p, host := host, draws := draws } : State).bufByte a =
      p.template[a] :=
  (Memory.read_nil _ a).trans (dif_pos ha)

/-- Settles O51: a step that is no Reset keeps a standing fault. -/
theorem resetCreatesAFreshContext : Obligations.ResetCreatesAFreshContext := by
  refine ⟨fun s rest hh => ?_, fun s t h hs ht => ?_⟩
  · exact ⟨_, step_action hh, State.bufByte_of_reset s.params rest s.draws,
      rfl, rfl, rfl, rfl, rfl, rfl, rfl, rfl⟩
  · by_contra hr
    obtain ⟨hstill, -⟩ := step_keeps_fault hs hr h
    exact Bool.false_ne_true (ht.symm.trans hstill)

/-! ### WriteBuf -/

/-- What `BUF` reads as after one byte is written. -/
theorem State.bufByte_bufWrite_single_eq_ite (s : State) (a : Nat) (v : Byte) (x : Nat) :
    (s.bufWrite a [v]).bufByte x = if x = a then v else s.bufByte x := by
  split
  · next hx => rw [hx, State.bufByte_bufWrite_single]
  · next hx =>
    have hout : ¬ (a ≤ x ∧ x < a + [v].length) := by rw [List.length_singleton]; omega
    exact (s.bufByte_bufWrite a [v] x).trans (dif_neg hout)

/-- Settles O52. -/
theorem writeBufWritesOneByte : Obligations.WriteBufWritesOneByte := by
  refine fun s a v rest hh => ⟨fun ha => ?_, fun ha => ?_⟩
  · exact ⟨_, (step_action hh).trans (if_pos ha),
      (s.setHost rest).bufByte_bufWrite_single_eq_ite a v, rfl⟩
  · exact (step_action hh).trans (if_neg (Nat.not_lt.2 ha))

/-! ### The reads -/

/-- Settles O53, read by read along the ranges of 10_state R35. -/
theorem hostReadsHandBackAndChangeNothing : Obligations.HostReadsHandBackAndChangeNothing := by
  refine ⟨fun s a rest hh => ⟨fun ha => ?_, fun ha => ?_⟩,
    fun s i rest hh => ⟨fun hi hlen => ?_, fun hi hlen => ?_, fun hi => ?_⟩, fun s rest hh => ?_⟩
  · exact (step_action hh).trans (if_pos ha)
  · exact (step_action hh).trans (if_neg (Nat.not_lt.2 ha))
  · exact (step_action hh).trans ((if_pos hi).trans (if_pos hlen))
  · exact ⟨_, _, (step_action hh).trans ((if_pos hi).trans (if_neg (Nat.not_lt.2 hlen)))⟩
  · exact (step_action hh).trans (if_neg (Nat.not_lt.2 hi))
  · exact step_action hh

/-! ### The host's scripts -/

/-- Settles O59: PLTE's data begin at 33 and tRNS's at 51. -/
theorem hostScriptsWriteTheirRegions : Obligations.HostScriptsWriteTheirRegions := by
  refine fun k r g b a => ⟨?_, fun y px => rfl⟩
  have hgreen : defaultChunks.plte.off + 8 + 3 * k + 1 = 34 + 3 * k := Nat.add_right_comm 33 _ 1
  have hblue : defaultChunks.plte.off + 8 + 3 * k + 2 = 35 + 3 * k := Nat.add_right_comm 33 _ 2
  rw [setPaletteColor, hgreen, hblue]
  rfl

end Sys2Proof.Machine
end

section
/-! PROOFS. ADLER32 and the CRC32 of IDAT at the default layout (70_reset R178): the Adler-32 field,
2424 to 2427, lies among IDAT's covered bytes, and the trailer, 2428 to 2431, outside the stream and
the field. -/

namespace Sys2Proof.Machine

variable {s : State}

/-- The field lies past the stream, so it verifies after ADLER32 (40_adler32 R97). -/
theorem State.patchAdler_verifies (hl : DefaultLayout s.params) :
    s.patchAdler.memRead 2424 4 = adler32 (s.patchAdler.bufBytes 72 2352) := by
  obtain ⟨hstream, hadler⟩ := hl
  have hstreamOff : s.streamOff = 72 := congrArg Fin.val hstream
  have hadlerOff : s.adlerOff = 2424 := congrArg Fin.val hadler
  have hkept : s.patchAdler.stream = s.stream := State.patchAdler_stream (by omega)
  have hfield := s.patchAdler_memRead
  rw [← hkept, State.stream, State.patchAdler_streamOff, hstreamOff, hadlerOff] at hfield
  exact hfield

/-- IDAT's CRC32 writes nothing below its trailer. -/
theorem State.patchCrc_idat_bufByte_below (s : State) {x : Nat} (hx : x < 2428) :
    (s.patchCrc 57 2375).bufByte x = s.bufByte x :=
  s.patchCrc_bufByte_outside 57 2375 x (.inl hx)

/-- IDAT's trailer takes the CRC-32 of the bytes CRC32 finds, type and data. -/
theorem State.patchCrc_idat_memRead (htab : s.tab = crcTable) :
    (s.patchCrc 57 2375).memRead 2428 4 = crc32 (s.bufBytes 61 2367) := by
  have hword := s.patchCrc_memRead 57 2375
  rw [htab] at hword
  exact hword

/-- IDAT's trailer lies outside the bytes it covers, so it verifies after CRC32. -/
theorem State.patchCrc_idat_verifies (htab : s.tab = crcTable) :
    (s.patchCrc 57 2375).memRead 2428 4 = crc32 ((s.patchCrc 57 2375).bufBytes 61 2367) := by
  rw [State.patchCrc_idat_memRead htab, State.bufBytes_congr (by decide) fun x _ hx =>
    s.patchCrc_idat_bufByte_below hx]

/-- Neither the stream nor the field is touched by IDAT's CRC32: the field goes on verifying. -/
theorem State.patchCrc_idat_keeps_adler
    (h : s.memRead 2424 4 = adler32 (s.bufBytes 72 2352)) :
    (s.patchCrc 57 2375).memRead 2424 4 = adler32 ((s.patchCrc 57 2375).bufBytes 72 2352) := by
  rw [State.memRead_congr fun x _ hx => s.patchCrc_idat_bufByte_below hx,
    State.bufBytes_congr (by decide) fun x _ hx => s.patchCrc_idat_bufByte_below (by omega), h]

/-- ADLER32 leaves IDAT's trailer alone. -/
theorem State.patchAdler_memRead_idatTrailer (hl : DefaultLayout s.params) :
    s.patchAdler.memRead 2428 4 = s.memRead 2428 4 := by
  obtain ⟨-, hadler⟩ := hl
  have hadlerOff : s.adlerOff = 2424 := congrArg Fin.val hadler
  exact State.memRead_congr fun x hx _ => s.patchAdler_bufByte_outside x (.inr (by omega))

theorem exec_crc32_idat (htabv : s.tabv = true) :
    exec (.crc32 57 2375) s = .next (s.patchCrc 57 2375).complete :=
  exec_crc32_inside htabv (by decide)

/-- The first command of a list completes, and the rest runs from the state it left (20_memory
R61). -/
theorem execAll_cons_of_next {i : Instr} {is : List Instr} {t : State} (h : exec i s = .next t) :
    execAll (i :: is) s = execAll is t := by
  rw [execAll, h]

/-- Settles O57: CRC32 leaves the field verifying, and ADLER32 leaves the trailer as it was. -/
theorem adlerBeforeIdatCrcVerifies : Obligations.AdlerBeforeIdatCrcVerifies := by
  intro s hl htabv htab
  constructor
  · have htabv' : s.patchAdler.complete.tabv = true := by simpa using htabv
    have htab' : s.patchAdler.complete.tab = crcTable := by simpa using htab
    have hfield : s.patchAdler.complete.memRead 2424 4 =
        adler32 (s.patchAdler.complete.bufBytes 72 2352) := State.patchAdler_verifies hl
    exact ⟨_, (execAll_cons_of_next (exec_adler32 s)).trans
      (execAll_cons_of_next (exec_crc32_idat htabv')),
      State.patchCrc_idat_keeps_adler hfield, State.patchCrc_idat_verifies htab'⟩
  · have hl' : DefaultLayout (s.patchCrc 57 2375).complete.params := by simpa using hl
    exact ⟨_, (execAll_cons_of_next (exec_crc32_idat htabv)).trans
      (execAll_cons_of_next (exec_adler32 _)),
      State.patchAdler_verifies hl',
      (State.patchAdler_memRead_idatTrailer hl').trans (State.patchCrc_idat_memRead htab)⟩

end Sys2Proof.Machine
end
